-- ==== Sys2Proof/Word.lean ====
section
/-! DEFINITION. The units of data of the RDT engine: bytes, 16-bit values and datagrams (00_scope R11). -/

namespace Sys2Proof

/-- A byte, 8 bits; bit 0 is the least significant (00_scope R11). -/
abbrev Byte := BitVec 8

/-- A 16-bit value: a sequence number, a length, an integrity value (00_scope R8). -/
abbrev Half := BitVec 16

/-- A byte string carried whole by the channel; element 0 is the first byte transmitted
(00_scope R11, 20_memory R64, R66). -/
abbrev Datagram := List Byte

end Sys2Proof
end

