-- ==== Sys2Proof/Config.lean ====
section
/-! DEFINITION. What an implementation fixes: the session attributes' types, the fixed constants of 00_scope R8,
the open parameters of 00_scope R9, and the two values the spec leaves unspecified (41_segment_framer R142,
42_timeout_manager R164). -/

namespace Sys2Proof

/-- The role of an endpoint: 0 = SENDER, 1 = RECEIVER (10_state R21). -/
inductive Role where
  | sender
  | receiver
deriving DecidableEq, Repr

/-- The ARQ discipline: 0 = SW, stop-and-wait; 1 = GBN, Go-Back-N (10_state R22). -/
inductive Mode where
  | sw
  | gbn
deriving DecidableEq, Repr

/-- The integrity algorithm: 0 = CSUM16, 1 = CRC16 (10_state R23). -/
inductive Alg where
  | csum16
  | crc16
deriving DecidableEq, Repr

namespace Config

/-- The open parameters an instance is built with (00_scope R9). Both are 16 bits wide, so the upper bound 65535 of
R9 holds by the type. They are held in the state and no step writes them. DESIGN CHOICE, log 1: 'unsafe' only for a
claim that rests on the values `State.reset` carries. `TICK_PERIOD`, on which no rule depends, is not held (log 23). -/
structure Params where
  /-- `MSS_MAX`, the largest payload the instance can buffer. -/
  mssMax : Half
  /-- `W_MAX`, the number of retransmission queue entries of the instance. -/
  wMax : Half
deriving DecidableEq, Repr

/-- The lower bounds of 00_scope R9. -/
abbrev Params.Legal (p : Params) : Prop := 1 ≤ p.mssMax.toNat ∧ 1 ≤ p.wMax.toNat

/-- The parameter values the spec's test vectors use, 'not a default' (92_eei_decisions, open parameters). DESIGN
CHOICE, log 1. -/
def vectorParams : Params := { mssMax := 65535#16, wMax := 65535#16 }

/-- FREE VALUE (log 9, DESIGN CHOICE, 'safe'): the bytes ENCODE returns outside the preconditions of
41_segment_framer R142, which 'is not specified' (93_implementation_defined U5, 'any value'). It is a function of the
latched algorithm, modulus and maximum payload and of the operands only, as R148 says of ENCODE. -/
opaque encodeUnspecified (alg : Alg) (m : BitVec 17) (mss : Half) (seq : Half) (flag : Byte) (p : List Byte) :
    List Byte

/-- FREE VALUE (log 10, DESIGN CHOICE, 'safe'): how many of its oldest entries a queue of `len` entries loses to
TM_CANCEL(k) where `k` is not in 1 .. `len`; 42_timeout_manager R164 states no result there. It is drawn afresh each
time, `draw` being the number of values drawn before. -/
opaque cancelUnspecified (draw : Nat) (k : Half) (len : Nat) : Nat

end Config

end Sys2Proof
end

