-- ==== Sys2Proof/Syntax.lean ====
section
/-! DEFINITION. The operations of the RDT engine: one constructor of `Instr` per row of spec/opcode_table.json
(30_encoding: 'The "instructions" of this hardware are its operations'). Register numbers and codes do not appear here;
Decode.lean reads them from the encodings. -/

namespace Sys2Proof

/-- Where an operation word stands, which is what gives its bits their meaning: a buffer at `ch_in`, a command at the
command port, a select at one of the three leaf units, or a dispatch word (30_encoding R90, R101, R103, R104). -/
inductive Format where
  | frame
  | cmd
  | ic
  | sf
  | tm
  | dw
deriving DecidableEq, Repr

/-- The two commands `tx_admit` decides on (43_session_control R189). -/
inductive TxKind where
  | push
  | close
deriving DecidableEq, Repr

/-- The operand of TM_ARM: 'an entry of `rtx`, or the entry about to be pushed' (42_timeout_manager R163). -/
inductive ArmTarget where
  /-- The queue entry with this index, 0 being the oldest. -/
  | queued (i : Half)
  /-- An entry not yet in the queue: its sequence number and its frame. -/
  | fresh (seq : Half) (frame : List Byte)
deriving DecidableEq, Repr

/-- The operations, one constructor per row of the opcode table, in the table's order. In a transition's operands
`r`, `m` and `c` are the role, mode and class bits its dispatch word leaves open; `buf` is the inbound buffer of an
`RX_FRAME` event and `p` a payload. -/
inductive Instr where
  /-- DATA: a buffer with flag 0 arrives; `rest` is all that follows the header (30_encoding R96). -/
  | frameData (seq len : Half) (rest : List Byte)
  /-- ACK: a buffer with flag 1 and length 0 arrives (30_encoding R97). -/
  | frameAck (seq : Half) (rest : List Byte)
  /-- FIN: a buffer with flag 2 and length 0 arrives (30_encoding R98). -/
  | frameFin (seq : Half) (rest : List Byte)
  /-- FRAME.ILLEGAL: a buffer with no legal header arrives (30_encoding R99). -/
  | frameIllegal (buf : List Byte)
  /-- CMD.OPEN: command code 0x01 (30_encoding R101). -/
  | cmdOpen
  /-- CMD.TX_PUSH: command code 0x02 with its payload (30_encoding R101). -/
  | cmdTxPush (p : List Byte)
  /-- CMD.TX_CLOSE: command code 0x03 (30_encoding R101). -/
  | cmdTxClose
  /-- CMD.ABORT: command code 0x04 with its cause (30_encoding R101). -/
  | cmdAbort (cause : Byte)
  /-- CMD.RESERVED: any other command code (43_session_control R188). -/
  | cmdReserved (code : Byte)
  /-- CSUM16: generate the checksum of `bytes` (40_integrity_codec R123). -/
  | csum16 (bytes : List Byte)
  /-- CSUM16V: verify the checksum `c` of `bytes` (40_integrity_codec R124). -/
  | csum16v (c : Half) (bytes : List Byte)
  /-- CRC16: generate the CRC of `bytes` (40_integrity_codec R125). -/
  | crc16 (bytes : List Byte)
  /-- CRC16V: verify the CRC `c` of `bytes` (40_integrity_codec R126). -/
  | crc16v (c : Half) (bytes : List Byte)
  /-- ENCODE: serialize a segment (41_segment_framer R141). -/
  | encode (seq : Half) (flag : Byte) (p : List Byte)
  /-- DECODE: deserialize a buffer (41_segment_framer R143). -/
  | decode (buf : List Byte)
  /-- TM_TICK: advance time by one tick (42_timeout_manager R161). -/
  | tmTick
  /-- TM_ARM: arm or re-arm a timer (42_timeout_manager R163). -/
  | tmArm (target : ArmTarget)
  /-- TM_CANCEL(k): remove the `k` oldest entries (42_timeout_manager R164). -/
  | tmCancel (k : Half)
  /-- TM_CANCEL_ALL: empty the queue (42_timeout_manager R165). -/
  | tmCancelAll
  /-- TM_EXPIRED: the expiry condition (42_timeout_manager R166). -/
  | tmExpired
  /-- OPEN, accepted (43_session_control R183). -/
  | evOpen (r m : BitVec 1)
  /-- OPEN.BADCFG (43_session_control R184). -/
  | evOpenBadcfg (r m : BitVec 1)
  /-- OPEN.BADSTATE (43_session_control R185). -/
  | evOpenBadstate (r m : BitVec 1)
  /-- ABORT, accepted (43_session_control R186). -/
  | evAbort (r m : BitVec 1) (cause : Byte)
  /-- ABORT.BADSTATE (43_session_control R187). -/
  | evAbortBadstate (r m : BitVec 1) (cause : Byte)
  /-- TX.REFUSE: `tx_admit` fails (43_session_control R189). -/
  | txRefuse (r m : BitVec 1) (kind : TxKind) (p : List Byte)
  /-- RX.INACTIVE: a buffer dropped undecoded (43_session_control R190). -/
  | rxInactive (r m : BitVec 1) (c : BitVec 3) (buf : List Byte)
  /-- TICK: the whole handling is TM_TICK (42_timeout_manager R161). -/
  | evTick (r m : BitVec 1)
  /-- SWS.PUSH (44_stop_and_wait R201). -/
  | swsPush (p : List Byte)
  /-- SWS.CLOSE (44_stop_and_wait R202). -/
  | swsClose
  /-- SWS.ACK_OK (44_stop_and_wait R203). -/
  | swsAckOk (buf : List Byte)
  /-- SWS.ACK_BAD (44_stop_and_wait R204). -/
  | swsAckBad (c : BitVec 3) (buf : List Byte)
  /-- SWS.TIMEOUT (44_stop_and_wait R205). -/
  | swsTimeout
  /-- SWS.RX_READY (44_stop_and_wait R206). -/
  | swsRxReady (c : BitVec 3) (buf : List Byte)
  /-- SWR.DATA_OK (44_stop_and_wait R211). -/
  | swrDataOk (buf : List Byte)
  /-- SWR.DATA_DUP (44_stop_and_wait R212). -/
  | swrDataDup (buf : List Byte)
  /-- SWR.FIN_OK (44_stop_and_wait R213). -/
  | swrFinOk (buf : List Byte)
  /-- SWR.FIN_DUP (44_stop_and_wait R214). -/
  | swrFinDup (buf : List Byte)
  /-- SWR.CLOSED_REACK; `c` 0 = DATA, 1 = FIN (44_stop_and_wait R215). -/
  | swrClosedReack (c : BitVec 1) (buf : List Byte)
  /-- SWR.CORRUPT (44_stop_and_wait R216). -/
  | swrCorrupt (buf : List Byte)
  /-- SWR.ACK_IGN (44_stop_and_wait R217). -/
  | swrAckIgn (buf : List Byte)
  /-- GBS.PUSH (45_go_back_n R231). -/
  | gbsPush (p : List Byte)
  /-- GBS.CLOSE (45_go_back_n R232). -/
  | gbsClose
  /-- GBS.ACK (45_go_back_n R233). -/
  | gbsAck (buf : List Byte)
  /-- GBS.ACK_STALE (45_go_back_n R234). -/
  | gbsAckStale (buf : List Byte)
  /-- GBS.DISCARD (45_go_back_n R235). -/
  | gbsDiscard (c : BitVec 3) (buf : List Byte)
  /-- GBS.TIMEOUT (45_go_back_n R236). -/
  | gbsTimeout
  /-- GBR.DATA_OK (45_go_back_n R241). -/
  | gbrDataOk (buf : List Byte)
  /-- GBR.DATA_OOO (45_go_back_n R242). -/
  | gbrDataOoo (buf : List Byte)
  /-- GBR.FIN_OK (45_go_back_n R243). -/
  | gbrFinOk (buf : List Byte)
  /-- GBR.FIN_OOO (45_go_back_n R244). -/
  | gbrFinOoo (buf : List Byte)
  /-- GBR.CLOSED_REACK; `c` 0 = DATA, 1 = FIN (45_go_back_n R245). -/
  | gbrClosedReack (c : BitVec 1) (buf : List Byte)
  /-- GBR.CORRUPT (45_go_back_n R246). -/
  | gbrCorrupt (buf : List Byte)
  /-- GBR.ACK_IGN (45_go_back_n R247). -/
  | gbrAckIgn (buf : List Byte)
deriving DecidableEq, Repr

end Sys2Proof
end

