-- ==== Sys2Proof/WellFormed.lean ====
section
/-! DEFINITION. Which terms of `Instr` some operation word encodes. What depends on the session (a sequence number
against `ses.M`, a length against `ses.mss`, the integrity check) is not here: 41_segment_framer R143 checks it when the
operation runs. -/

namespace Sys2Proof

/-- The classes a dispatch word carries: 0 DATA, 1 ACK, 2 FIN, 7 CorruptFrame; '3 to 6 never occur'
(30_encoding R103). -/
def legalClass (c : BitVec 3) : Bool := decide (c = 0 ∨ c = 1 ∨ c = 2 ∨ c = 7)

/-- A buffer whose header is none of the three of 30_encoding R96 to R98: too short for a frame, a flag of 3 to 255, or
an ACK or FIN with a length that is not 0 (R99). -/
def illegalHeader (buf : List Byte) : Bool :=
  match buf with
  | _ :: _ :: f :: l1 :: l0 :: rest =>
    decide (rest.length < 2 ∨ 2 < f.toNat ∨ (f ≠ 0 ∧ (l1 ≠ 0 ∨ l0 ≠ 0)))
  | _ => true

/-- Every check that makes a term the operation of some word:
the trailer of a frame is present (30_encoding R90), an illegal frame has no legal header (R99), a reserved command code
is not one of the four (R101), a dispatch word's class is one that occurs (R103), a `TX_CLOSE` carries no payload
(43_session_control R189) and GBS.DISCARD has the class of no ACK (45_go_back_n R235). -/
def Instr.wellFormed : Instr → Bool
  | .frameData _ _ rest => decide (2 ≤ rest.length)
  | .frameAck _ rest => decide (2 ≤ rest.length)
  | .frameFin _ rest => decide (2 ≤ rest.length)
  | .frameIllegal buf => illegalHeader buf
  | .cmdOpen => true
  | .cmdTxPush _ => true
  | .cmdTxClose => true
  | .cmdAbort _ => true
  | .cmdReserved code => decide (code.toNat = 0 ∨ 4 < code.toNat)
  | .csum16 _ => true
  | .csum16v _ _ => true
  | .crc16 _ => true
  | .crc16v _ _ => true
  | .encode _ _ _ => true
  | .decode _ => true
  | .tmTick => true
  | .tmArm _ => true
  | .tmCancel _ => true
  | .tmCancelAll => true
  | .tmExpired => true
  | .evOpen _ _ => true
  | .evOpenBadcfg _ _ => true
  | .evOpenBadstate _ _ => true
  | .evAbort _ _ _ => true
  | .evAbortBadstate _ _ _ => true
  | .txRefuse _ _ kind p => decide (kind = .push ∨ p = [])
  | .rxInactive _ _ c _ => legalClass c
  | .evTick _ _ => true
  | .swsPush _ => true
  | .swsClose => true
  | .swsAckOk _ => true
  | .swsAckBad c _ => legalClass c
  | .swsTimeout => true
  | .swsRxReady c _ => legalClass c
  | .swrDataOk _ => true
  | .swrDataDup _ => true
  | .swrFinOk _ => true
  | .swrFinDup _ => true
  | .swrClosedReack _ _ => true
  | .swrCorrupt _ => true
  | .swrAckIgn _ => true
  | .gbsPush _ => true
  | .gbsClose => true
  | .gbsAck _ => true
  | .gbsAckStale _ => true
  | .gbsDiscard c _ => legalClass c && decide (c ≠ 1)
  | .gbsTimeout => true
  | .gbrDataOk _ => true
  | .gbrDataOoo _ => true
  | .gbrFinOk _ => true
  | .gbrFinOoo _ => true
  | .gbrClosedReack _ _ => true
  | .gbrCorrupt _ => true
  | .gbrAckIgn _ => true

end Sys2Proof
end

