-- ==== Sys2Proof/Decode.lean ====
section
/-! DEFINITION. The encodings of 30_encoding: byte order helpers, the decoder of an operation word (total, rejecting by
name), the encoder, and the reading of a row's word as the opcode table numbers its bits. How the operands that the spec
gives no encoding stand after a code, a select or a dispatch word is the model's own layout (log 6). -/

namespace Sys2Proof

/-! ## Byte order (00_scope R11, 20_memory R61) -/

/-- `be16(b0, b1) = b0·256 + b1`: two bytes, most significant first. -/
def be16 (b0 b1 : Byte) : Half := b0 ++ b1

/-- The most significant byte of a 16-bit value, the first one transmitted. -/
def hiByte (v : Half) : Byte := v.extractLsb' 8 8

/-- The least significant byte of a 16-bit value. -/
def loByte (v : Half) : Byte := v.extractLsb' 0 8

/-- `BE16(v)`, the inverse of `be16`. -/
def be16Bytes (v : Half) : List Byte := [hiByte v, loByte v]

/-! ## The dispatch word `DW = role ‖ mode ‖ ev ‖ cls` (30_encoding R103) -/

/-- The dispatch word of a role bit, a mode bit, an event code and a class. -/
def dwByte (r m : BitVec 1) (ev cls : BitVec 3) : Byte := r ++ m ++ ev ++ cls

/-- Bit 7, `ses.role`. -/
def dwRole (w : Byte) : BitVec 1 := w.extractLsb' 7 1
/-- Bit 6, `ses.mode`. -/
def dwMode (w : Byte) : BitVec 1 := w.extractLsb' 6 1
/-- Bits 5:3, the event code. -/
def dwEv (w : Byte) : BitVec 3 := w.extractLsb' 3 3
/-- Bits 2:0, the class. -/
def dwCls (w : Byte) : BitVec 3 := w.extractLsb' 0 3

/-- The class bits of CLOSED_REACK: `0c0`, the middle bit of `cls` (table rows SWR.CLOSED_REACK, GBR.CLOSED_REACK). -/
def reackCls (c : BitVec 1) : BitVec 3 := 0#1 ++ c ++ 0#1

/-- The rows whose pattern an `RX_FRAME` dispatch word matches (30_encoding R103; 44_stop_and_wait, 45_go_back_n). A
class that never occurs matches none. -/
def rxRows (r m : BitVec 1) (c : BitVec 3) (buf : List Byte) : List Instr :=
  if legalClass c then
    (if r = 0 then
      if m = 0 then
        (if c = 1 then [.swsAckOk buf] else []) ++ [.swsAckBad c buf, .swsRxReady c buf]
      else if c = 1 then [.gbsAck buf, .gbsAckStale buf]
      else [.gbsDiscard c buf]
    else if m = 0 then
      if c = 0 then [.swrDataOk buf, .swrDataDup buf, .swrClosedReack 0 buf]
      else if c = 1 then [.swrAckIgn buf]
      else if c = 2 then [.swrFinOk buf, .swrFinDup buf, .swrClosedReack 1 buf]
      else [.swrCorrupt buf]
    else
      if c = 0 then [.gbrDataOk buf, .gbrDataOoo buf, .gbrClosedReack 0 buf]
      else if c = 1 then [.gbrAckIgn buf]
      else if c = 2 then [.gbrFinOk buf, .gbrFinOoo buf, .gbrClosedReack 1 buf]
      else [.gbrCorrupt buf]) ++ [.rxInactive r m c buf]
  else []

/-- The rows whose pattern a dispatch word with these operand bytes matches, most specific first: the word selects the
row 'together with a condition on the state and operands that the rule states' (30_encoding R103), so several rows may
share a word. No row is the answer for a word the table does not list. -/
def dwRows (w : Byte) (ops : List Byte) : List Instr :=
  let r := dwRole w
  let m := dwMode w
  if dwEv w = 1 then
    if dwCls w = 0 ∧ ops = [] then [.evOpen r m, .evOpenBadcfg r m, .evOpenBadstate r m] else []
  else if dwEv w = 2 then
    if dwCls w = 0 then
      (if r = 0 then (if m = 0 then [.swsPush ops] else [.gbsPush ops]) else []) ++ [.txRefuse r m .push ops]
    else []
  else if dwEv w = 3 then
    if dwCls w = 0 ∧ ops = [] then
      (if r = 0 then (if m = 0 then [.swsClose] else [.gbsClose]) else []) ++ [.txRefuse r m .close []]
    else []
  else if dwEv w = 4 then
    match ops with
    | [cause] => if dwCls w = 0 then [.evAbort r m cause, .evAbortBadstate r m cause] else []
    | _ => []
  else if dwEv w = 5 then rxRows r m (dwCls w) ops
  else if dwEv w = 6 then
    if dwCls w = 0 ∧ ops = [] ∧ r = 0 then (if m = 0 then [.swsTimeout] else [.gbsTimeout]) else []
  else if dwEv w = 7 then
    if dwCls w = 0 ∧ ops = [] then [.evTick r m] else []
  else []

/-! ## The decoder -/

/-- Why a word decodes to no operation. -/
inductive DecodeError where
  /-- A command, a select or a dispatch word of no bytes. -/
  | emptyWord
  /-- A unit select the spec reserves or a select byte above its width (30_encoding R104). -/
  | reservedSelect
  /-- A dispatch word that no row of the opcode table matches (30_encoding R103). -/
  | noTransition
  /-- Operand bytes missing or in excess. -/
  | badOperand
deriving DecidableEq, Repr

/-- The frame row a buffer's header matches (30_encoding R96 to R99). Every buffer is one of the four; whether a buffer
with a legal header is a frame in the session is DECODE's answer when it runs (log 16). -/
def decodeFrameWord (buf : List Byte) : Instr :=
  match buf with
  | s1 :: s0 :: f :: l1 :: l0 :: rest =>
    if illegalHeader (s1 :: s0 :: f :: l1 :: l0 :: rest) then .frameIllegal (s1 :: s0 :: f :: l1 :: l0 :: rest)
    else if f = 0 then .frameData (be16 s1 s0) (be16 l1 l0) rest
    else if f = 1 then .frameAck (be16 s1 s0) rest
    else .frameFin (be16 s1 s0) rest
  | short => .frameIllegal short

/-- A command: its 8-bit code, then its operand (30_encoding R101). The operand of a reserved code is ignored
(43_session_control R188). -/
def decodeCmdWord (bs : List Byte) : Except DecodeError Instr :=
  match bs with
  | [] => .error .emptyWord
  | code :: ops =>
    if code = 1 then if ops = [] then .ok .cmdOpen else .error .badOperand
    else if code = 2 then .ok (.cmdTxPush ops)
    else if code = 3 then if ops = [] then .ok .cmdTxClose else .error .badOperand
    else if code = 4 then
      match ops with
      | [cause] => .ok (.cmdAbort cause)
      | _ => .error .badOperand
    else .ok (.cmdReserved code)

/-- An IC operation: select `alg ‖ op`, then for a verification the supplied value, then the byte string
(30_encoding R104). -/
def decodeIcWord (bs : List Byte) : Except DecodeError Instr :=
  match bs with
  | [] => .error .emptyWord
  | sel :: ops =>
    if sel = 0 then .ok (.csum16 ops)
    else if sel = 2 then .ok (.crc16 ops)
    else if sel = 1 ∨ sel = 3 then
      match ops with
      | c1 :: c0 :: rest => if sel = 1 then .ok (.csum16v (be16 c1 c0) rest) else .ok (.crc16v (be16 c1 c0) rest)
      | _ => .error .badOperand
    else .error .reservedSelect

/-- An SF operation: select 0 ENCODE with sequence, flag and payload; select 1 DECODE with its buffer
(30_encoding R104). -/
def decodeSfWord (bs : List Byte) : Except DecodeError Instr :=
  match bs with
  | [] => .error .emptyWord
  | sel :: ops =>
    if sel = 0 then
      match ops with
      | s1 :: s0 :: flag :: p => .ok (.encode (be16 s1 s0) flag p)
      | _ => .error .badOperand
    else if sel = 1 then .ok (.decode ops)
    else .error .reservedSelect

/-- The operand of TM_ARM: a tag byte, 0 a new entry, 1 a queue index. -/
def decodeArmTarget (ops : List Byte) : Except DecodeError ArmTarget :=
  match ops with
  | tag :: x1 :: x0 :: frame =>
    if tag = 0 then .ok (.fresh (be16 x1 x0) frame)
    else if tag = 1 then if frame = [] then .ok (.queued (be16 x1 x0)) else .error .badOperand
    else .error .badOperand
  | _ => .error .badOperand

/-- A TM operation: selects 000 to 100; 101, 110 and 111 are reserved (30_encoding R104). -/
def decodeTmWord (bs : List Byte) : Except DecodeError Instr :=
  match bs with
  | [] => .error .emptyWord
  | sel :: ops =>
    if sel = 0 then if ops = [] then .ok .tmTick else .error .badOperand
    else if sel = 1 then
      match decodeArmTarget ops with
      | .ok t => .ok (.tmArm t)
      | .error e => .error e
    else if sel = 2 then
      match ops with
      | [k1, k0] => .ok (.tmCancel (be16 k1 k0))
      | _ => .error .badOperand
    else if sel = 3 then if ops = [] then .ok .tmCancelAll else .error .badOperand
    else if sel = 4 then if ops = [] then .ok .tmExpired else .error .badOperand
    else .error .reservedSelect

/-- A dispatch word: the first row it matches; the state's condition chooses among the others
(`Machine.decodeIn`). -/
def decodeDwWord (bs : List Byte) : Except DecodeError Instr :=
  match bs with
  | [] => .error .emptyWord
  | w :: ops =>
    match dwRows w ops with
    | [] => .error .noTransition
    | i :: _ => .ok i

/-- The decoder: the operation a word is, given where it stands. Total on any bytes. -/
def decode (f : Format) (bs : List Byte) : Except DecodeError Instr :=
  match f with
  | .frame => .ok (decodeFrameWord bs)
  | .cmd => decodeCmdWord bs
  | .ic => decodeIcWord bs
  | .sf => decodeSfWord bs
  | .tm => decodeTmWord bs
  | .dw => decodeDwWord bs

/-! ## The encoder -/

/-- The operand bytes of a TM_ARM target. -/
def encodeArmTarget : ArmTarget → List Byte
  | .queued i => 1#8 :: be16Bytes i
  | .fresh seq frame => 0#8 :: (be16Bytes seq ++ frame)

/-- The event code of the command a TX.REFUSE refuses: 2 TX_PUSH, 3 TX_CLOSE (30_encoding R103). -/
def txEv : TxKind → BitVec 3
  | .push => 2#3
  | .close => 3#3

/-- The encoder: where an operation's word stands, and its bytes, from the tables of 30_encoding. -/
def encode : Instr → Format × List Byte
  | .frameData seq len rest => (.frame, be16Bytes seq ++ 0#8 :: (be16Bytes len ++ rest))
  | .frameAck seq rest => (.frame, be16Bytes seq ++ 1#8 :: 0#8 :: 0#8 :: rest)
  | .frameFin seq rest => (.frame, be16Bytes seq ++ 2#8 :: 0#8 :: 0#8 :: rest)
  | .frameIllegal buf => (.frame, buf)
  | .cmdOpen => (.cmd, [0x01#8])
  | .cmdTxPush p => (.cmd, 0x02#8 :: p)
  | .cmdTxClose => (.cmd, [0x03#8])
  | .cmdAbort cause => (.cmd, [0x04#8, cause])
  | .cmdReserved code => (.cmd, [code])
  | .csum16 bytes => (.ic, 0#8 :: bytes)
  | .csum16v c bytes => (.ic, 1#8 :: (be16Bytes c ++ bytes))
  | .crc16 bytes => (.ic, 2#8 :: bytes)
  | .crc16v c bytes => (.ic, 3#8 :: (be16Bytes c ++ bytes))
  | .encode seq flag p => (.sf, 0#8 :: (be16Bytes seq ++ flag :: p))
  | .decode buf => (.sf, 1#8 :: buf)
  | .tmTick => (.tm, [0#8])
  | .tmArm t => (.tm, 1#8 :: encodeArmTarget t)
  | .tmCancel k => (.tm, 2#8 :: be16Bytes k)
  | .tmCancelAll => (.tm, [3#8])
  | .tmExpired => (.tm, [4#8])
  | .evOpen r m => (.dw, [dwByte r m 1 0])
  | .evOpenBadcfg r m => (.dw, [dwByte r m 1 0])
  | .evOpenBadstate r m => (.dw, [dwByte r m 1 0])
  | .evAbort r m cause => (.dw, [dwByte r m 4 0, cause])
  | .evAbortBadstate r m cause => (.dw, [dwByte r m 4 0, cause])
  | .txRefuse r m kind p => (.dw, dwByte r m (txEv kind) 0 :: p)
  | .rxInactive r m c buf => (.dw, dwByte r m 5 c :: buf)
  | .evTick r m => (.dw, [dwByte r m 7 0])
  | .swsPush p => (.dw, dwByte 0 0 2 0 :: p)
  | .swsClose => (.dw, [dwByte 0 0 3 0])
  | .swsAckOk buf => (.dw, dwByte 0 0 5 1 :: buf)
  | .swsAckBad c buf => (.dw, dwByte 0 0 5 c :: buf)
  | .swsTimeout => (.dw, [dwByte 0 0 6 0])
  | .swsRxReady c buf => (.dw, dwByte 0 0 5 c :: buf)
  | .swrDataOk buf => (.dw, dwByte 1 0 5 0 :: buf)
  | .swrDataDup buf => (.dw, dwByte 1 0 5 0 :: buf)
  | .swrFinOk buf => (.dw, dwByte 1 0 5 2 :: buf)
  | .swrFinDup buf => (.dw, dwByte 1 0 5 2 :: buf)
  | .swrClosedReack c buf => (.dw, dwByte 1 0 5 (reackCls c) :: buf)
  | .swrCorrupt buf => (.dw, dwByte 1 0 5 7 :: buf)
  | .swrAckIgn buf => (.dw, dwByte 1 0 5 1 :: buf)
  | .gbsPush p => (.dw, dwByte 0 1 2 0 :: p)
  | .gbsClose => (.dw, [dwByte 0 1 3 0])
  | .gbsAck buf => (.dw, dwByte 0 1 5 1 :: buf)
  | .gbsAckStale buf => (.dw, dwByte 0 1 5 1 :: buf)
  | .gbsDiscard c buf => (.dw, dwByte 0 1 5 c :: buf)
  | .gbsTimeout => (.dw, [dwByte 0 1 6 0])
  | .gbrDataOk buf => (.dw, dwByte 1 1 5 0 :: buf)
  | .gbrDataOoo buf => (.dw, dwByte 1 1 5 0 :: buf)
  | .gbrFinOk buf => (.dw, dwByte 1 1 5 2 :: buf)
  | .gbrFinOoo buf => (.dw, dwByte 1 1 5 2 :: buf)
  | .gbrClosedReack c buf => (.dw, dwByte 1 1 5 (reackCls c) :: buf)
  | .gbrCorrupt buf => (.dw, dwByte 1 1 5 7 :: buf)
  | .gbrAckIgn buf => (.dw, dwByte 1 1 5 1 :: buf)

/-- The rows of the opcode table whose word does not depend on a condition: a frame, a command or a unit operation.
Its word alone decodes back to it. -/
def isUnconditional (i : Instr) : Bool := decide ((encode i).1 ≠ .dw)

/-! ## A row's word as the opcode table numbers its bits -/

/-- The byte of `w` whose least significant bit is bit `lo`. -/
def tableByte (w lo : Nat) : Byte := BitVec.ofNat 8 (w >>> lo)

/-- The operand byte of zeros an `ABORT` has after its 8 bits (its cause); the other dispatch words and commands have
operand strings, here empty. -/
def zeroOperand (isAbort : Bool) : List Byte := if isAbort then [0#8] else []

/-- The operation word that an instruction with the bits `w` in `nbits` bits is, as it stands at its port (log 12).
40 bits are a frame header, bit 39 the first one transmitted (30_encoding R90), with a trailer of two zero bytes. 8 bits
are a command code where the code is assigned, else a dispatch word where a row has it, else a reserved command code.
1, 2 and 3 bits are an SF, an IC and a TM select. Operands beyond `nbits` are zeros or empty. -/
def tableWord (nbits w : Nat) : Option (Format × List Byte) :=
  if nbits = 40 then
    some (.frame, [tableByte w 32, tableByte w 24, tableByte w 16, tableByte w 8, tableByte w 0, 0#8, 0#8])
  else if nbits = 8 then
    let b := tableByte w 0
    let z := zeroOperand (decide (dwEv b = 4))
    if 0 < b.toNat ∧ b.toNat ≤ 4 then some (.cmd, b :: zeroOperand (decide (b = 4)))
    else if dwRows b z = [] then some (.cmd, [b])
    else some (.dw, b :: z)
  else if nbits = 1 then
    if w % 2 = 0 then some (.sf, [0#8, 0#8, 0#8, 0#8]) else some (.sf, [1#8])
  else if nbits = 2 then
    let s := tableByte (w % 4) 0
    if w % 2 = 0 then some (.ic, [s]) else some (.ic, [s, 0#8, 0#8])
  else if nbits = 3 then
    let s := tableByte (w % 8) 0
    if w % 8 = 1 then some (.tm, [s, 0#8, 0#8, 0#8])
    else if w % 8 = 2 then some (.tm, [s, 0#8, 0#8])
    else some (.tm, [s])
  else none

/-- The operation the decoder reads from a row's word (the host asks for it). -/
def decodeTableWord (nbits w : Nat) : Option Instr :=
  match tableWord nbits w with
  | none => none
  | some (f, bs) =>
    match decode f bs with
    | .ok i => some i
    | .error _ => none

end Sys2Proof
end

