-- ==== Sys2Proof/Machine/State.lean ====
section
/-! DEFINITION. The state of one instance of the RDT engine: the block's own state, whole, as 10_state R20 lists it; the
implementation's open parameters (00_scope R9); and, beside the block, the ports and the environment a model keeps
(10_state R49, 20_memory R60). Its reset values (10_state R51). The reasons a step can stop. -/

namespace Sys2Proof.Machine

/-! ## The block -/

/-- The seven configuration registers, CSR 0 to 6 (10_state R21 to R27). The host writes them at any time; only `OPEN`
reads them. -/
structure CfgRegs where
  /-- `CFG_ROLE` (R21). -/
  role : Role
  /-- `CFG_MODE` (R22). -/
  mode : Mode
  /-- `CFG_ALG` (R23). -/
  alg : Alg
  /-- `CFG_MSS` (R24). -/
  mss : Half
  /-- `CFG_W` (R25). -/
  w : Half
  /-- `CFG_SEQMOD` (R26). -/
  seqmod : BitVec 17
  /-- `CFG_TIMEOUT` (R27), in ticks. -/
  timeout : BitVec 32
deriving DecidableEq, Repr

/-- `ses`, the configuration `OPEN` latched; every rule reads this and never `CFG_*` (10_state R28). -/
structure Ses where
  /-- `ses.role`. -/
  role : Role
  /-- `ses.mode`. -/
  mode : Mode
  /-- `ses.alg`. -/
  alg : Alg
  /-- `ses.mss`, the largest payload of the session. -/
  mss : Half
  /-- `ses.W`, the window size. -/
  w : Half
  /-- `ses.M`, the sequence modulus. -/
  m : BitVec 17
  /-- `ses.T`, the timeout duration in ticks. -/
  t : BitVec 32
deriving DecidableEq, Repr

/-- `st`, the control state (10_state R29). The reserved value 7 is 'never held' and has no constructor
(93_implementation_defined U3; log 14). -/
inductive Ctl where
  /-- 0: no session since reset. -/
  | idle
  /-- 1: sender, session open; nothing in flight in SW, the whole active life in GBN. -/
  | ready
  /-- 2: SW sender, one segment in flight. -/
  | awaitingAck
  /-- 3: sender, the FIN was acknowledged. -/
  | done
  /-- 4: receiver, accepting DATA and FIN. -/
  | listen
  /-- 5: receiver, FIN accepted, lingering. -/
  | closed
  /-- 6: session aborted. -/
  | aborted
deriving DecidableEq, Repr

/-- An entry of the retransmission queue: the outstanding segment and its timer (10_state R33, R34). -/
structure Entry where
  /-- The segment's sequence number. -/
  seq : Half
  /-- The encoded frame exactly as first emitted. -/
  frame : List Byte
  /-- The value of `now` at which its timer expires. -/
  deadline : BitVec 32
deriving DecidableEq, Repr

/-- The sub-causes of CorruptFrame (41_segment_framer R143). -/
inductive CorruptSub where
  | truncated
  | integrity
  | length
  | flag
  | seq
deriving DecidableEq, Repr

/-- What `raise` records in `last_cause` (60_exceptions R261). 'All other code values are never written.' -/
inductive Cause where
  | none
  | corruptFrame (sub : CorruptSub)
  | timeout
  | outOfOrder
  | duplicate
  | staleAck
  | unexpected
  | sessionAborted
deriving DecidableEq, Repr

/-- The result of a host command, `cmd_err` (30_encoding R102); 6 and 7 are never written. -/
inductive CmdResult where
  | ok
  | busy
  | badState
  | badLen
  | badCfg
  | badCmd
deriving DecidableEq, Repr

/-- The state S of an instance, 'exactly' (10_state R20). -/
structure Block where
  /-- The configuration registers (R21 to R27). -/
  cfg : CfgRegs
  /-- The latched session configuration (R28). -/
  ses : Ses
  /-- The control state (R29). -/
  st : Ctl
  /-- The alternating bit of the stop-and-wait sender (R30). -/
  b : BitVec 1
  /-- The oldest unacknowledged sequence number of the Go-Back-N sender (R31). -/
  base : Half
  /-- `next`, the next new sequence number of the Go-Back-N sender (R32). -/
  nxt : Half
  /-- The retransmission queue, oldest first (R33). -/
  rtx : List Entry
  /-- The FIN has been built and queued (R35). -/
  fin : Bool
  /-- The sequence number the receiver accepts next (R36). -/
  expected : Half
  /-- End of stream has been signalled (R37). -/
  eos : Bool
  /-- The tick counter (R38). -/
  now : BitVec 32
  /-- A CorruptFrame was raised this session (R39). -/
  corruptSeen : Bool
  /-- An OutOfOrder or a Duplicate was raised this session (R39). -/
  oooSeen : Bool
  /-- A frame was re-emitted this session (R39). -/
  retxSeen : Bool
  /-- The most recent `raise` (R40). -/
  lastCause : Cause
  /-- The operand of the `ABORT` that ended the session (R40). -/
  abortCause : Byte
  /-- The result of the most recent host command (R40). -/
  cmdErr : CmdResult
deriving DecidableEq, Repr

/-! ## The ports and the environment -/

/-- A command as it stands at the command port: its 8-bit code, the cause an `ABORT` carries, and the payload of
`tx_data` a `TX_PUSH` carries (20_memory R60, 30_encoding R101). A code reads only its own operand (log 5). -/
structure HostCmd where
  /-- The command code. -/
  code : Byte
  /-- The operand of `ABORT`. -/
  cause : Byte
  /-- The operand of `TX_PUSH`. -/
  payload : List Byte
deriving DecidableEq, Repr

/-- An effect at an output port (00_scope R14): `emit` at `ch_out`, `deliver` and `signal_eos` at `rx_data`. -/
inductive Effect where
  | emit (f : Datagram)
  | deliver (p : List Byte)
  | signalEos
deriving DecidableEq, Repr

/-- A source of events that are arbitrated (43_session_control R181). -/
inductive EventSource where
  /-- The command port, any command. -/
  | command
  /-- `ch_in`. -/
  | frame
  /-- The Timeout Manager. -/
  | timeout
deriving DecidableEq, Repr

/-- What the environment does next, between two events (43_session_control R180, R181, 10_state R43,
70_reset_and_hazards R290; log 3). -/
inductive Moment where
  /-- The channel delivers a datagram to `ch_in`. -/
  | arrive (buf : Datagram)
  /-- The host issues a command. -/
  | command (c : HostCmd)
  /-- The time base ticks: the `TICK` event. -/
  | tick
  /-- The host reads register `n`. -/
  | csrRead (n : Nat)
  /-- The host writes `v` to register `n`. -/
  | csrWrite (n : Nat) (v : BitVec 32)
  /-- Reset is asserted. -/
  | reset
  /-- The endpoint is free and takes the event that arbitration gives it. -/
  | serve
  /-- The endpoint is free and takes the event of this source, if it has one: another order than the priority's, so that
  a claim over every agenda is one 'for every serialisation' (43_session_control R181; log 4). -/
  | pick (src : EventSource)
  /-- MODEL'S OWN (log 11): an operation word is presented to a unit of the block by itself. -/
  | issue (f : Format) (bs : List Byte)
deriving DecidableEq, Repr

/-- The result of a leaf-unit operation issued by itself. The units have no register for it (40_integrity_codec R134);
the model keeps it where a claim can name it (log 11). -/
inductive UnitResult where
  | none
  /-- CSUM16, CRC16. -/
  | value (v : Half)
  /-- CSUM16V, CRC16V, TM_EXPIRED. -/
  | bool (v : Bool)
  /-- ENCODE. -/
  | frame (f : List Byte)
  /-- DECODE, accepted: sequence, flag, payload. -/
  | segment (seq : Half) (flag : Byte) (p : List Byte)
  /-- DECODE, rejected. -/
  | corrupt (sub : CorruptSub)
  /-- TM_ARM of an entry about to be pushed. -/
  | entry (e : Entry)
deriving DecidableEq, Repr

/-- The ports of the block and what the environment holds (20_memory R60, 10_state R49; log 2). -/
structure Env where
  /-- What the environment does next, first one first; empty means that the endpoint is left to serve. -/
  agenda : List Moment
  /-- The commands the host has issued; the command port presents the first (43_session_control R180). -/
  cmds : List HostCmd
  /-- The datagrams delivered to `ch_in` and not yet handled, in the order delivered. -/
  chIn : List Datagram
  /-- Every effect at `ch_out` and `rx_data` so far, oldest first. -/
  out : List Effect
  /-- What the last register read returned. -/
  csrData : BitVec 32
  /-- The result of the last leaf-unit operation issued by itself. -/
  unitOut : UnitResult
  /-- MODEL'S OWN (log 10): how many free values have been drawn. -/
  freeDraws : Nat
deriving DecidableEq, Repr

/-- The state of the machine: the parameters it is built with, the block, and what stands around it. -/
structure State where
  /-- The open parameters; no step writes them. -/
  hw : Config.Params
  /-- The state S of 10_state R20. -/
  blk : Block
  /-- The ports and the environment. -/
  env : Env
deriving DecidableEq, Repr

/-! ## Reset -/

/-- Every piece of the block's state after reset (10_state R51): zeros, `IDLE`, an empty queue. -/
def resetBlock : Block where
  cfg := { role := .sender, mode := .sw, alg := .csum16, mss := 0#16, w := 0#16, seqmod := 0#17, timeout := 0#32 }
  ses := { role := .sender, mode := .sw, alg := .csum16, mss := 0#16, w := 0#16, m := 0#17, t := 0#32 }
  st := .idle
  b := 0#1
  base := 0#16
  nxt := 0#16
  rtx := []
  fin := false
  expected := 0#16
  eos := false
  now := 0#32
  corruptSeen := false
  oooSeen := false
  retxSeen := false
  lastCause := .none
  abortCause := 0#8
  cmdErr := .ok

/-- The environment in which nothing has happened and nothing is offered. DESIGN CHOICE, log 2. -/
def quietEnv : Env where
  agenda := []
  cmds := []
  chIn := []
  out := []
  csrData := 0#32
  unitOut := .none
  freeDraws := 0

/-- An instance built with parameters `p`, right after reset. -/
def resetWith (p : Config.Params) : State where
  hw := p
  blk := resetBlock
  env := quietEnv

/-- The machine right after reset (10_state R51), with the test vectors' parameters (log 1). -/
def State.reset : State := resetWith Config.vectorParams

/-! ## The reasons a step can stop -/

/-- Why the machine is stuck. The block itself has no fault (60_exceptions R275); each of these is the 'stuck' of
93_implementation_defined, and none is reached by a step from a state that meets `Safety.Inv`. -/
inductive Fault where
  /-- Raised by the meaning of a transition row issued where the condition of its rule does not hold: 'a model must not
  give it a step there' (43_session_control R191, R182; log 7). Safe: the machine stops where the hardware has no such
  step. -/
  | conditionFalse
  /-- Raised by the handling of an event in a combination of role, mode and control state that no rule of
  43_session_control R182 covers, such as a receiver in READY (log 8). Safe: no run reaches one. -/
  | noRule
  /-- Raised by a retransmission in AWAITING_ACK with an empty queue, which 10_state R46 excludes (log 8). Safe. -/
  | queueEmpty
  /-- Raised by TM_ARM of a queue index that names no entry: it is no operand of 42_timeout_manager R163 (log 24).
  Safe. -/
  | noSuchEntry
deriving DecidableEq, Repr

/-- Why a step has no meaning. -/
inductive Refusal where
  /-- Raised by `exec` for an instruction that has no meaning yet; no arm does. Safe. -/
  | notModelled (mnemonic : String)
  /-- Raised by `step` when a word issued to a unit by itself decodes to no operation, such as a reserved select
  (30_encoding R103, R104; log 6). Safe: the block never issues one. -/
  | undecodable (e : DecodeError)
deriving DecidableEq, Repr

/-- The outcome of running one operation. -/
abbrev Out := Host.Outcome State Fault Refusal

end Sys2Proof.Machine
end

