-- ==== Sys2Proof/Machine/Operands.lean ====
section
/-! DEFINITION. The numeric codes of the named values (10_state R21 to R29, 30_encoding R102, 60_exceptions R261), the
modular arithmetic of sequence numbers (00_scope R12), and the command word of the command port. -/

namespace Sys2Proof.Machine

/-! ## Codes -/

/-- SENDER 0, RECEIVER 1 (10_state R21). -/
def roleBit : Role → BitVec 1
  | .sender => 0#1
  | .receiver => 1#1

/-- The role a bit names. -/
def roleOfBit (v : BitVec 1) : Role := if v = 0 then .sender else .receiver

/-- SW 0, GBN 1 (10_state R22). -/
def modeBit : Mode → BitVec 1
  | .sw => 0#1
  | .gbn => 1#1

/-- The mode a bit names. -/
def modeOfBit (v : BitVec 1) : Mode := if v = 0 then .sw else .gbn

/-- CSUM16 0, CRC16 1 (10_state R23). -/
def algBit : Alg → BitVec 1
  | .csum16 => 0#1
  | .crc16 => 1#1

/-- The algorithm a bit names. -/
def algOfBit (v : BitVec 1) : Alg := if v = 0 then .csum16 else .crc16

/-- The codes of `st` (10_state R29). -/
def ctlCode : Ctl → BitVec 3
  | .idle => 0#3
  | .ready => 1#3
  | .awaitingAck => 2#3
  | .done => 3#3
  | .listen => 4#3
  | .closed => 5#3
  | .aborted => 6#3

/-- The codes of `cmd_err` (30_encoding R102). -/
def cmdResultCode : CmdResult → BitVec 3
  | .ok => 0#3
  | .busy => 1#3
  | .badState => 2#3
  | .badLen => 3#3
  | .badCfg => 4#3
  | .badCmd => 5#3

/-- The codes of the sub-causes of CorruptFrame (60_exceptions R261). -/
def corruptCode : CorruptSub → Byte
  | .truncated => 0x01#8
  | .integrity => 0x02#8
  | .length => 0x03#8
  | .flag => 0x04#8
  | .seq => 0x05#8

/-- The codes of `last_cause` (60_exceptions R261). -/
def causeCode : Cause → Byte
  | .none => 0x00#8
  | .corruptFrame sub => corruptCode sub
  | .timeout => 0x10#8
  | .outOfOrder => 0x20#8
  | .duplicate => 0x21#8
  | .staleAck => 0x22#8
  | .unexpected => 0x23#8
  | .sessionAborted => 0x40#8

/-! ## Flag values of a frame (30_encoding R92) -/

/-- DATA = 0. -/
def flagData : Byte := 0#8
/-- ACK = 1. -/
def flagAck : Byte := 1#8
/-- FIN = 2. -/
def flagFin : Byte := 2#8

/-! ## Sequence arithmetic (00_scope R12: `x mod n` is in 0 .. n−1, also for a negative `x`) -/

/-- `(a + 1) mod m`. -/
def seqSucc (a : Half) (m : BitVec 17) : Half := BitVec.ofNat 16 ((a.toNat + 1) % m.toNat)

/-- `(a − b) mod m`, a count of sequence numbers. -/
def seqDist (a b : Half) (m : BitVec 17) : Nat := (((a.toNat : Int) - (b.toNat : Int)) % (m.toNat : Int)).toNat

/-- `(a − 1) mod m`. -/
def seqPred (a : Half) (m : BitVec 17) : Half := BitVec.ofNat 16 (((a.toNat : Int) - 1) % (m.toNat : Int)).toNat

/-- A sequence number from the alternating bit, 'zero-extended' (30_encoding R91). -/
def seqOfBit (b : BitVec 1) : Half := b.zeroExtend 16

/-- The alternating bit after it flips: `1 − b` (44_stop_and_wait R203). -/
def flipBit (b : BitVec 1) : BitVec 1 := 1#1 - b

/-- The stop-and-wait receiver's other sequence number: `1 − expected` (44_stop_and_wait R210). -/
def otherSeq (expected : Half) : Half := 1#16 - expected

/-! ## The command port -/

/-- The command word the port presents: the code, then the operand the code has (30_encoding R101). -/
def cmdWord (c : HostCmd) : List Byte :=
  c.code :: (if c.code = 2 then c.payload else if c.code = 4 then [c.cause] else [])

end Sys2Proof.Machine
end

