-- ==== Sys2Proof/Machine/Flags.lean ====
section
/-! DEFINITION. The diagnostic flags: `raise`, `refuse` and acceptance (00_scope R14, 60_exceptions R262, R270), the
derived bit `tx_ready` (10_state R41) and the `STATUS` word (R42). -/

namespace Sys2Proof.Machine

/-- The command result is written: `S.cmd_err <- code`. -/
def setCmdErr (r : CmdResult) (s : State) : State := { s with blk := { s.blk with cmdErr := r } }

/-- `refuse(code)`: the command ends 'with no change to any state except `S.cmd_err <- code`' (00_scope R14). -/
def refuse (r : CmdResult) (s : State) : State := setCmdErr r s

/-- An accepted command sets `S.cmd_err <- 0` (00_scope R14). -/
def accept (s : State) : State := setCmdErr .ok s

/-- Whether a cause sets `corrupt_seen` (60_exceptions R262). -/
def Cause.isCorrupt : Cause → Bool
  | .corruptFrame _ => true
  | .none | .timeout | .outOfOrder | .duplicate | .staleAck | .unexpected | .sessionAborted => false

/-- `raise X(info)`, the one way a condition is recorded; it 'does exactly this and nothing else'
(60_exceptions R262): the cause, and the sticky flag of its kind. The event's rule goes on. -/
def raise (c : Cause) (s : State) : State :=
  { s with blk := { s.blk with
      lastCause := c
      corruptSeen := s.blk.corruptSeen || c.isCorrupt
      oooSeen := s.blk.oooSeen || decide (c = .outOfOrder) || decide (c = .duplicate)
      retxSeen := s.blk.retxSeen || decide (c = .timeout) } }

/-- `retx_seen <- 1`, the direct write of SWS.ACK_BAD (44_stop_and_wait R204). -/
def setRetxSeen (s : State) : State := { s with blk := { s.blk with retxSeen := true } }

/-- `tx_ready = (st = READY) and (fin = 0) and (|rtx| < ses.W)` (10_state R41). -/
def txReady (s : State) : Bool :=
  decide (s.blk.st = .ready) && !s.blk.fin && decide (s.blk.rtx.length < s.blk.ses.w.toNat)

/-- One bit of a register. -/
def boolBit (v : Bool) : BitVec 1 := BitVec.ofBool v

/-- `STATUS`, CSR 7, from bit 31 down to bit 0 (10_state R42). -/
def statusWord (s : State) : BitVec 32 :=
  causeCode s.blk.lastCause ++ s.blk.abortCause
    ++ 0#1 ++ cmdResultCode s.blk.cmdErr
    ++ 0#1 ++ boolBit s.blk.retxSeen ++ boolBit s.blk.oooSeen ++ boolBit s.blk.corruptSeen
    ++ 0#2 ++ boolBit s.blk.eos ++ boolBit s.blk.fin ++ boolBit (txReady s)
    ++ ctlCode s.blk.st

end Sys2Proof.Machine
end

