-- ==== Sys2Proof/Machine/Ops.lean ====
section
/-! DEFINITION. The named operations over the state that the rules share: single-field writes, the three output effects
of 00_scope R14, the register file of 10_state R43, reset (70_reset_and_hazards R290), and running a guarded rule. Taking
an exception is `raise` in Flags.lean; there is no return from one (60_exceptions R260). -/

namespace Sys2Proof.Machine

/-! ## Single-field writes (`S.f <- v`, 00_scope R13) -/

/-- `S.st <- c`. -/
def setSt (c : Ctl) (s : State) : State := { s with blk := { s.blk with st := c } }
/-- `S.b <- v`. -/
def setB (v : BitVec 1) (s : State) : State := { s with blk := { s.blk with b := v } }
/-- `S.base <- v`. -/
def setBase (v : Half) (s : State) : State := { s with blk := { s.blk with base := v } }
/-- `S.next <- v`. -/
def setNxt (v : Half) (s : State) : State := { s with blk := { s.blk with nxt := v } }
/-- `S.rtx <- q`. -/
def setRtx (q : List Entry) (s : State) : State := { s with blk := { s.blk with rtx := q } }
/-- `S.fin <- v`. -/
def setFin (v : Bool) (s : State) : State := { s with blk := { s.blk with fin := v } }
/-- `S.expected <- v`. -/
def setExpected (v : Half) (s : State) : State := { s with blk := { s.blk with expected := v } }
/-- `S.now <- v`. -/
def setNow (v : BitVec 32) (s : State) : State := { s with blk := { s.blk with now := v } }
/-- `S.abort_cause <- v`. -/
def setAbortCause (v : Byte) (s : State) : State := { s with blk := { s.blk with abortCause := v } }
/-- The model's result register of a unit operation issued by itself (log 11). -/
def setUnitOut (v : UnitResult) (s : State) : State := { s with env := { s.env with unitOut := v } }
/-- A free value has been drawn; the next one drawn is another (log 10). -/
def drawFree (s : State) : State := { s with env := { s.env with freeDraws := s.env.freeDraws + 1 } }

/-! ## Output effects (00_scope R14) -/

/-- `emit(F)`: one datagram to `ch_out`. It always completes (20_memory R69). -/
def emit (f : Datagram) (s : State) : State := { s with env := { s.env with out := s.env.out ++ [.emit f] } }

/-- `emit` of several datagrams, in order. -/
def emitAll (fs : List Datagram) (s : State) : State :=
  { s with env := { s.env with out := s.env.out ++ fs.map .emit } }

/-- `deliver(P)`: the whole payload to the sink (20_memory R66, R69). -/
def deliver (p : List Byte) (s : State) : State := { s with env := { s.env with out := s.env.out ++ [.deliver p] } }

/-- `signal_eos()`: tells the sink the stream has ended and sets `S.eos` (00_scope R14). -/
def signalEos (s : State) : State :=
  { s with
    blk := { s.blk with eos := true }
    env := { s.env with out := s.env.out ++ [.signalEos] } }

/-- The datagram an effect puts on `ch_out`, if it is an `emit`. -/
def Effect.emitted : Effect → List Datagram
  | .emit f => [f]
  | .deliver _ => []
  | .signalEos => []

/-- The bytes an effect appends to the sink's stream. -/
def Effect.delivered : Effect → List Byte
  | .emit _ => []
  | .deliver p => p
  | .signalEos => []

/-- The datagrams emitted so far, in order. -/
def chOut (s : State) : List Datagram := s.env.out.flatMap Effect.emitted

/-- The sink's received byte stream (10_state R49). -/
def sinkBytes (s : State) : List Byte := s.env.out.flatMap Effect.delivered

/-- Whether the sink has been told the end of the stream (10_state R49). -/
def eosMark (s : State) : Bool := decide (Effect.signalEos ∈ s.env.out)

/-! ## The control and status register file (10_state R43) -/

/-- A read of register `n`: 'Upper bits of a register narrower than 32 read as 0'; a number above 13 returns 0. The
read-only views return the named state as it stands (R44; log 18). -/
def csrValue (n : Nat) (s : State) : BitVec 32 :=
  match n with
  | 0 => (roleBit s.blk.cfg.role).zeroExtend 32
  | 1 => (modeBit s.blk.cfg.mode).zeroExtend 32
  | 2 => (algBit s.blk.cfg.alg).zeroExtend 32
  | 3 => s.blk.cfg.mss.zeroExtend 32
  | 4 => s.blk.cfg.w.zeroExtend 32
  | 5 => s.blk.cfg.seqmod.zeroExtend 32
  | 6 => s.blk.cfg.timeout
  | 7 => statusWord s
  | 8 => s.blk.now
  | 9 => s.blk.b.zeroExtend 32
  | 10 => s.blk.base.zeroExtend 32
  | 11 => s.blk.nxt.zeroExtend 32
  | 12 => (BitVec.ofNat 16 s.blk.rtx.length).zeroExtend 32
  | 13 => s.blk.expected.zeroExtend 32
  | _ => 0#32

/-- The configuration registers after a write of `v` to register `n`: 'Writing a value outside a register's width keeps
the low bits' (10_state, section 2); any other number is ignored (R43). -/
def cfgAfterWrite (n : Nat) (v : BitVec 32) (c : CfgRegs) : CfgRegs :=
  match n with
  | 0 => { c with role := roleOfBit (v.truncate 1) }
  | 1 => { c with mode := modeOfBit (v.truncate 1) }
  | 2 => { c with alg := algOfBit (v.truncate 1) }
  | 3 => { c with mss := v.truncate 16 }
  | 4 => { c with w := v.truncate 16 }
  | 5 => { c with seqmod := v.truncate 17 }
  | 6 => { c with timeout := v }
  | _ => c

/-- The host reads a register: no side effect on the block (10_state R43); the value goes to the host (log 17). -/
def csrRead (n : Nat) (s : State) : State := { s with env := { s.env with csrData := csrValue n s } }

/-- The host writes a register (10_state R43). -/
def csrWrite (n : Nat) (v : BitVec 32) (s : State) : State :=
  { s with blk := { s.blk with cfg := cfgAfterWrite n v s.blk.cfg } }

/-! ## Reset -/

/-- Reset: 'every piece of state takes the "after reset" value'; it 'emits nothing, delivers nothing'
(70_reset_and_hazards R290). The parameters and the environment are not the block's (log 19). -/
def assertReset (s : State) : State := { s with blk := resetBlock }

/-! ## Running a rule under its condition -/

/-- A transition rule: its effect where its condition holds, stuck elsewhere (log 7). -/
def guarded (cond : Bool) (t : State) : Out := if cond then .next t else .fault .conditionFalse

end Sys2Proof.Machine
end

