-- ==== Sys2Proof/Machine/Codec.lean ====
section
/-! DEFINITION. The Integrity Codec (40_integrity_codec): one's-complement addition, the Internet-style checksum, the
CRC, the session's choice between them, and the meanings of CSUM16, CSUM16V, CRC16 and CRC16V. -/

namespace Sys2Proof.Machine

/-- One's-complement addition `a +' b`: with `t = a + b` on 17 bits, `t[15:0] + t[16]` (40_integrity_codec R121). -/
def addOc (a b : Half) : Half :=
  let t : BitVec 17 := a.zeroExtend 17 + b.zeroExtend 17
  t.extractLsb' 0 16 + (t.extractLsb' 16 1).zeroExtend 16

/-- The loop of `OCSUM16`: add 16-bit big-endian words to `acc`; an odd last byte is the high byte of a word padded
with a zero byte (40_integrity_codec R122, 20_memory R62). -/
def ocsumFrom (acc : Half) : List Byte → Half
  | [] => acc
  | [x] => addOc acc (be16 x 0#8)
  | x :: y :: rest => ocsumFrom (addOc acc (be16 x y)) rest

/-- `OCSUM16(B)`, the folded sum (40_integrity_codec R122). -/
def ocsum16 (bytes : List Byte) : Half := ocsumFrom 0#16 bytes

/-- `CSUM16(B) = ~OCSUM16(B) = 0xFFFF − OCSUM16(B)` (40_integrity_codec R123). -/
def csumGen (bytes : List Byte) : Half := 0xFFFF#16 - ocsum16 bytes

/-- `CSUM16V(B, c)`: the supplied value is added as one further word and the fold is compared with all ones
(40_integrity_codec R124, R130, 70_reset_and_hazards R299). -/
def csumVerify (bytes : List Byte) (c : Half) : Bool := decide (addOc (ocsum16 bytes) c = 0xFFFF#16)

/-- One shift of the CRC register: shifted left, with the polynomial 0x1021 where bit 15 was 1
(40_integrity_codec R125). -/
def crcShift (r : Half) : Half := if r.getLsbD 15 then (r <<< 1) ^^^ 0x1021#16 else r <<< 1

/-- One byte enters at the top of the CRC register and is shifted through, most significant bit first
(40_integrity_codec R125, 20_memory R63). -/
def crcByte (r : Half) (x : Byte) : Half :=
  let r0 := r ^^^ (x.zeroExtend 16 <<< 8)
  crcShift (crcShift (crcShift (crcShift (crcShift (crcShift (crcShift (crcShift r0)))))))

/-- `CRC16(B)`: initial register 0xFFFF, no final XOR (40_integrity_codec R125). -/
def crcGen (bytes : List Byte) : Half := bytes.foldl crcByte 0xFFFF#16

/-- `CRC16V(B, c) = (CRC16(B) = c)` (40_integrity_codec R126). -/
def crcVerify (bytes : List Byte) (c : Half) : Bool := decide (crcGen bytes = c)

/-- `IC_GEN(alg, B)` (40_integrity_codec R127). -/
def icGen (alg : Alg) (bytes : List Byte) : Half :=
  match alg with
  | .csum16 => csumGen bytes
  | .crc16 => crcGen bytes

/-- `IC_VER(alg, B, c)` (40_integrity_codec R127). -/
def icVer (alg : Alg) (bytes : List Byte) (c : Half) : Bool :=
  match alg with
  | .csum16 => csumVerify bytes c
  | .crc16 => crcVerify bytes c

/-- CSUM16: the checksum of the bytes is the unit's result; no state of the block is written (40_integrity_codec R120,
R123). -/
def execCsum16 (bytes : List Byte) (s : State) : Out := .next (setUnitOut (.value (csumGen bytes)) s)

/-- CSUM16V (40_integrity_codec R124). -/
def execCsum16v (c : Half) (bytes : List Byte) (s : State) : Out :=
  .next (setUnitOut (.bool (csumVerify bytes c)) s)

/-- CRC16 (40_integrity_codec R125). -/
def execCrc16 (bytes : List Byte) (s : State) : Out := .next (setUnitOut (.value (crcGen bytes)) s)

/-- CRC16V (40_integrity_codec R126). -/
def execCrc16v (c : Half) (bytes : List Byte) (s : State) : Out :=
  .next (setUnitOut (.bool (crcVerify bytes c)) s)

end Sys2Proof.Machine
end

