-- ==== Sys2Proof/Machine/Framer.lean ====
section
/-! DEFINITION. The Segment Framer (41_segment_framer): ENCODE, DECODE and MKACK as functions of the latched session
configuration, the class of a buffer in a dispatch word, and the meanings of ENCODE and DECODE. -/

namespace Sys2Proof.Machine

/-- What DECODE answers: `Segment(seq, flag, P)` or `CorruptFrame(sub)` (41_segment_framer R143). -/
inductive Decoded where
  | segment (seq : Half) (flag : Byte) (p : List Byte)
  | corrupt (sub : CorruptSub)
deriving DecidableEq, Repr

/-- The preconditions of ENCODE (41_segment_framer R142). -/
def encodePre (ses : Ses) (seq : Half) (flag : Byte) (p : List Byte) : Bool :=
  decide (seq.toNat < ses.m.toNat) && decide (flag.toNat ≤ 2) && decide (p.length ≤ ses.mss.toNat)
    && (decide (flag = flagData) || decide (p = []))

/-- Header and payload: `BE16(seq) ‖ [flag] ‖ BE16(len(P)) ‖ P` (41_segment_framer R141, 30_encoding R90). -/
def frameBody (seq : Half) (flag : Byte) (p : List Byte) : List Byte :=
  be16Bytes seq ++ flag :: (be16Bytes (BitVec.ofNat 16 p.length) ++ p)

/-- The bytes the pseudocode of 41_segment_framer R141 gives: body and trailer. -/
def frameBytes (alg : Alg) (seq : Half) (flag : Byte) (p : List Byte) : List Byte :=
  frameBody seq flag p ++ be16Bytes (icGen alg (frameBody seq flag p))

/-- `ENCODE(seq, flag, P)`. 'what `ENCODE` returns outside them is not specified' (41_segment_framer R142): there the
result is a free value, a function of the same things (R148; log 9). -/
def encodeSeg (ses : Ses) (seq : Half) (flag : Byte) (p : List Byte) : List Byte :=
  if encodePre ses seq flag p then frameBytes ses.alg seq flag p
  else Config.encodeUnspecified ses.alg ses.m ses.mss seq flag p

/-- `MKACK(a) = ENCODE(a, ACK, [])` (41_segment_framer R147). -/
def mkAck (ses : Ses) (a : Half) : List Byte := encodeSeg ses a flagAck []

/-- The field checks of DECODE once the integrity check has passed, in the order of 41_segment_framer R143; `n` is the
buffer's length and `body` all of it but the trailer. -/
def decodeFields (ses : Ses) (n : Nat) (body : List Byte) : Decoded :=
  match body with
  | s1 :: s0 :: flag :: l1 :: l0 :: p =>
    let seq := be16 s1 s0
    let len := (be16 l1 l0).toNat
    if len ≠ n - 7 then .corrupt .length
    else if 2 < flag.toNat then .corrupt .flag
    else if ses.m.toNat ≤ seq.toNat then .corrupt .seq
    else if ses.mss.toNat < len then .corrupt .length
    else if flag ≠ flagData ∧ len ≠ 0 then .corrupt .length
    else .segment seq flag p
  | _ => .corrupt .truncated

/-- The 16-bit value of a buffer's last two bytes, 'big-endian' (30_encoding R90). -/
def trailer (buf : List Byte) : Half :=
  be16 (buf.getD (buf.length - 2) 0#8) (buf.getD (buf.length - 1) 0#8)

/-- `DECODE(buf)`: too short, then integrity, then the fields (41_segment_framer R143, R144). The trailer is found from
the end of the buffer, never from `length` (30_encoding R100). -/
def decodeSeg (ses : Ses) (buf : List Byte) : Decoded :=
  if buf.length < 7 then .corrupt .truncated
  else if icVer ses.alg (buf.take (buf.length - 2)) (trailer buf) then
    decodeFields ses buf.length (buf.take (buf.length - 2))
  else .corrupt .integrity

/-- The class bits of an `RX_FRAME` dispatch word: the flag of an accepted frame, 7 for CorruptFrame
(30_encoding R103). -/
def classOf : Decoded → BitVec 3
  | .segment _ flag _ => flag.truncate 3
  | .corrupt _ => 7#3

/-- The unit's result for DECODE. -/
def unitOfDecoded : Decoded → UnitResult
  | .segment seq flag p => .segment seq flag p
  | .corrupt sub => .corrupt sub

/-- ENCODE: the frame's bytes are the unit's result; it writes no state of the block (41_segment_framer R140, R141). -/
def execEncode (seq : Half) (flag : Byte) (p : List Byte) (s : State) : Out :=
  .next (setUnitOut (.frame (encodeSeg s.blk.ses seq flag p)) s)

/-- DECODE: the segment or the sub-cause is the unit's result; the unit raises nothing itself (41_segment_framer R140,
R143). -/
def execDecode (buf : List Byte) (s : State) : Out :=
  .next (setUnitOut (unitOfDecoded (decodeSeg s.blk.ses buf)) s)

end Sys2Proof.Machine
end

