-- ==== Sys2Proof/Machine/Timeout.lean ====
section
/-! DEFINITION. The Timeout Manager (42_timeout_manager): the tick, arming, cancelling, the expiry condition, when the
TIMEOUT event is enabled, and the meanings of its five operations and of TICK. -/

namespace Sys2Proof.Machine

/-- `S.now <- (S.now + 1) mod 2^32` (42_timeout_manager R161). -/
def tickNow (s : State) : State := setNow (s.blk.now + 1#32) s

/-- `expired(d) = ((now − d) mod 2^32) < 2^31` (42_timeout_manager R162). -/
def expired (now d : BitVec 32) : Bool := decide ((now - d).toNat < 2 ^ 31)

/-- The deadline TM_ARM gives: `(S.now + ses.T) mod 2^32` (42_timeout_manager R163, R169). -/
def armDeadline (s : State) : BitVec 32 := s.blk.now + s.blk.ses.t

/-- TM_ARM of an entry. -/
def armEntry (s : State) (e : Entry) : Entry := { e with deadline := armDeadline s }

/-- TM_ARM of every entry of the queue, at one value of `now` (45_go_back_n R236). -/
def armAll (s : State) : List Entry := s.blk.rtx.map (armEntry s)

/-- TM_CANCEL(k): `rtx.pop(k)`, the `k` oldest entries leave with their timers (42_timeout_manager R164). -/
def cancelOldest (k : Nat) (s : State) : State := setRtx (s.blk.rtx.drop k) s

/-- TM_CANCEL_ALL: `rtx <- []` (42_timeout_manager R165). -/
def cancelAll (s : State) : State := setRtx [] s

/-- `TM_EXPIRED = (|rtx| > 0) and expired(rtx[0].deadline)`: only the oldest entry is examined
(42_timeout_manager R166). -/
def tmExpired (s : State) : Bool :=
  match s.blk.rtx with
  | [] => false
  | e :: _ => expired s.blk.now e.deadline

/-- The TIMEOUT event is enabled: a sender in READY or AWAITING_ACK whose oldest timer has expired, evaluated on the
current state and recorded nowhere (42_timeout_manager R167, 10_state R48). -/
def timeoutEnabled (s : State) : Bool :=
  decide (s.blk.ses.role = .sender) && (decide (s.blk.st = .ready) || decide (s.blk.st = .awaitingAck))
    && tmExpired s

/-- TM_TICK: advance time by one tick, in every control state (42_timeout_manager R161). -/
def execTmTick (s : State) : Out := .next (tickNow s)

/-- TICK: its whole handling is TM_TICK, whatever the role and the mode (42_timeout_manager R161, 30_encoding R103). -/
def execEvTick (_r _m : BitVec 1) (s : State) : Out := .next (tickNow s)

/-- The queue with the entry at index `i` re-armed. -/
def armAt (s : State) (i : Nat) : List Entry := s.blk.rtx.modify i (armEntry s)

/-- TM_ARM: of a queue entry, its deadline is replaced; of an entry about to be pushed, the armed entry is the result
(42_timeout_manager R163). An index beyond the queue's end names no entry (log 24). -/
def execTmArm (target : ArmTarget) (s : State) : Out :=
  match target with
  | .queued i => if i.toNat < s.blk.rtx.length then .next (setRtx (armAt s i.toNat) s) else .fault .noSuchEntry
  | .fresh seq frame => .next (setUnitOut (.entry { seq := seq, frame := frame, deadline := armDeadline s }) s)

/-- TM_CANCEL(k): for 1 ≤ k ≤ |rtx|, `rtx.pop(k)`. For any other `k` no result is stated: how many of the oldest
entries leave is a free value; the entries that remain keep their deadlines, and nothing else changes
(42_timeout_manager R164; log 10). -/
def execTmCancel (k : Half) (s : State) : Out :=
  if 1 ≤ k.toNat ∧ k.toNat ≤ s.blk.rtx.length then .next (cancelOldest k.toNat s)
  else .next (drawFree (cancelOldest (Config.cancelUnspecified s.env.freeDraws k s.blk.rtx.length) s))

/-- TM_CANCEL_ALL (42_timeout_manager R165). -/
def execTmCancelAll (s : State) : Out := .next (cancelAll s)

/-- TM_EXPIRED: reads `rtx` and `now`; the condition is the unit's result (42_timeout_manager R166). -/
def execTmExpired (s : State) : Out := .next (setUnitOut (.bool (tmExpired s)) s)

end Sys2Proof.Machine
end

