-- ==== Sys2Proof/Machine/Session.lean ====
section
/-! DEFINITION. Session control (43_session_control): the legality of a configuration, admission of TX_PUSH and
TX_CLOSE, and the meanings of OPEN, OPEN.BADCFG, OPEN.BADSTATE, ABORT, ABORT.BADSTATE, TX.REFUSE and RX.INACTIVE. -/

namespace Sys2Proof.Machine

/-- `READY`, `AWAITING_ACK`, `LISTEN` (10_state R29). -/
def Ctl.isActive : Ctl → Bool
  | .ready | .awaitingAck | .listen => true
  | .idle | .done | .closed | .aborted => false

/-- `IDLE`, `DONE`, `ABORTED` (10_state R29); `CLOSED` is neither active nor inactive. -/
def Ctl.isInactive : Ctl → Bool
  | .idle | .done | .aborted => true
  | .ready | .awaitingAck | .listen | .closed => false

/-! ## OPEN -/

/-- The configuration registers are legal for `OPEN`: none of the conditions of 43_session_control R184 holds
(10_state R24 to R27). -/
def cfgLegal (hw : Config.Params) (c : CfgRegs) : Bool :=
  decide (c.mss.toNat ≠ 0) && decide (c.mss.toNat ≤ hw.mssMax.toNat)
    && (decide (c.role = .receiver) || (decide (c.timeout.toNat ≠ 0) && decide (c.timeout.toNat ≤ 2 ^ 31 - 1)))
    && (decide (c.mode = .sw)
      || (decide (c.w.toNat ≠ 0) && decide (c.w.toNat ≤ hw.wMax.toNat) && decide (c.w.toNat < c.seqmod.toNat)
        && decide (c.seqmod.toNat ≤ 65536)))

/-- What `OPEN` latches; stop-and-wait forces the window to 1 and the modulus to 2 (43_session_control R183). -/
def latch (c : CfgRegs) : Ses where
  role := c.role
  mode := c.mode
  alg := c.alg
  mss := c.mss
  w := match c.mode with
    | .sw => 1#16
    | .gbn => c.w
  m := match c.mode with
    | .sw => 2#17
    | .gbn => c.seqmod
  t := c.timeout

/-- The control state a session starts in (43_session_control R183). -/
def openState : Role → Ctl
  | .sender => .ready
  | .receiver => .listen

/-- The block after an accepted `OPEN`: `cfg` and `now` are kept, everything else is written
(43_session_control R183, 10_state R51). -/
def openedBlock (k : Block) : Block where
  cfg := k.cfg
  ses := latch k.cfg
  st := openState k.cfg.role
  b := 0#1
  base := 0#16
  nxt := 0#16
  rtx := []
  fin := false
  expected := 0#16
  eos := false
  now := k.now
  corruptSeen := false
  oooSeen := false
  retxSeen := false
  lastCause := .none
  abortCause := 0#8
  cmdErr := .ok

/-- The condition of OPEN: no session active and the configuration legal. -/
def condOpen (s : State) : Bool := !s.blk.st.isActive && cfgLegal s.hw s.blk.cfg
/-- The condition of OPEN.BADCFG. -/
def condOpenBadcfg (s : State) : Bool := !s.blk.st.isActive && !cfgLegal s.hw s.blk.cfg
/-- The condition of OPEN.BADSTATE; the configuration is not examined. -/
def condOpenBadstate (s : State) : Bool := s.blk.st.isActive

/-- OPEN, accepted: create a session (43_session_control R183). The rule does not depend on the dispatch word's role and
mode bits (30_encoding R103). -/
def execEvOpen (_r _m : BitVec 1) (s : State) : Out := guarded (condOpen s) { s with blk := openedBlock s.blk }

/-- OPEN with an illegal configuration: `refuse(BADCFG)` (43_session_control R184). -/
def execEvOpenBadcfg (_r _m : BitVec 1) (s : State) : Out := guarded (condOpenBadcfg s) (refuse .badCfg s)

/-- OPEN while a session is active: `refuse(BADSTATE)` (43_session_control R185). -/
def execEvOpenBadstate (_r _m : BitVec 1) (s : State) : Out := guarded (condOpenBadstate s) (refuse .badState s)

/-! ## ABORT -/

/-- The condition of ABORT: `st ∉ {IDLE, ABORTED}` (43_session_control R186). -/
def condAbort (s : State) : Bool := decide (s.blk.st ≠ .idle) && decide (s.blk.st ≠ .aborted)

/-- The teardown: every timer cancelled, `ABORTED`, the cause recorded, SessionAborted raised
(43_session_control R186, 60_exceptions R269). -/
def tearDown (cause : Byte) (s : State) : State :=
  accept (raise .sessionAborted (setAbortCause cause (setSt .aborted (cancelAll s))))

/-- ABORT(cause), accepted (43_session_control R186). -/
def execEvAbort (_r _m : BitVec 1) (cause : Byte) (s : State) : Out := guarded (condAbort s) (tearDown cause s)

/-- ABORT with no session to abort: `refuse(BADSTATE)`; the operand is not recorded (43_session_control R187). -/
def execEvAbortBadstate (_r _m : BitVec 1) (_cause : Byte) (s : State) : Out :=
  guarded (!condAbort s) (refuse .badState s)

/-! ## Admission -/

/-- `tx_admit(kind, P)`: the checks in order; the first that fails decides the refusal, and none failing admits the
command (43_session_control R189). -/
def txAdmit (kind : TxKind) (p : List Byte) (s : State) : CmdResult :=
  if s.blk.ses.role ≠ .sender ∨ (s.blk.st ≠ .ready ∧ s.blk.st ≠ .awaitingAck) then .badState
  else if s.blk.fin then .badState
  else if kind = .push ∧ s.blk.ses.mss.toNat < p.length then .badLen
  else if s.blk.ses.w.toNat ≤ s.blk.rtx.length then .busy
  else .ok

/-- TX.REFUSE: `tx_admit` fails and the command is refused with its answer (43_session_control R189). -/
def execTxRefuse (_r _m : BitVec 1) (kind : TxKind) (p : List Byte) (s : State) : Out :=
  guarded (decide (txAdmit kind p s ≠ .ok)) (refuse (txAdmit kind p s) s)

/-! ## A buffer at an inactive endpoint -/

/-- RX.INACTIVE: 'the buffer is dropped without being decoded'; no state changes (43_session_control R190). -/
def execRxInactive (_r _m : BitVec 1) (_c : BitVec 3) (_buf : List Byte) (s : State) : Out :=
  guarded s.blk.st.isInactive s

/-! ## A segment is sent -/

/-- A new segment leaves a sender: it is encoded, emitted, and stored with an armed timer at the tail of the queue
(44_stop_and_wait R201, R202, 45_go_back_n R231, R232, 20_memory R68). -/
def sendSegment (seq : Half) (flag : Byte) (p : List Byte) (s : State) : State :=
  setRtx (s.blk.rtx ++ [{ seq := seq, frame := encodeSeg s.blk.ses seq flag p, deadline := armDeadline s }])
    (emit (encodeSeg s.blk.ses seq flag p) s)

end Sys2Proof.Machine
end

