-- ==== Sys2Proof/Machine/StopAndWait.lean ====
section
/-! DEFINITION. What both disciplines' rules read of a decoded buffer, the shared answers of a receiver, and the
stop-and-wait sender and receiver (44_stop_and_wait): SWS.PUSH, SWS.CLOSE, SWS.ACK_OK, SWS.ACK_BAD, SWS.TIMEOUT,
SWS.RX_READY, SWR.DATA_OK, SWR.DATA_DUP, SWR.FIN_OK, SWR.FIN_DUP, SWR.CLOSED_REACK, SWR.CORRUPT, SWR.ACK_IGN. -/

namespace Sys2Proof.Machine

/-! ## Reading a decoded buffer -/

/-- The inbound buffer as the session decodes it. -/
def dec (s : State) (buf : List Byte) : Decoded := decodeSeg s.blk.ses buf

/-- A verified segment with this flag. -/
def Decoded.hasFlag (d : Decoded) (f : Byte) : Bool :=
  match d with
  | .segment _ flag _ => decide (flag = f)
  | .corrupt _ => false

/-- A verified segment whose sequence number is `v`. -/
def Decoded.hasSeq (d : Decoded) (v : Half) : Bool :=
  match d with
  | .segment seq _ _ => decide (seq = v)
  | .corrupt _ => false

/-- The sequence number of a verified segment; a rule reads it only of one (41_segment_framer R145). -/
def Decoded.seqNum : Decoded → Half
  | .segment seq _ _ => seq
  | .corrupt _ => 0#16

/-- The payload of a verified segment; a rule reads it only of one (41_segment_framer R145). -/
def Decoded.payload : Decoded → List Byte
  | .segment _ _ p => p
  | .corrupt _ => []

/-- DECODE rejected the buffer. -/
def Decoded.isCorrupt : Decoded → Bool
  | .segment _ _ _ => false
  | .corrupt _ => true

/-- What a sender raises for a buffer that is not the acknowledgment it can use (44_stop_and_wait R204,
45_go_back_n R234, R235): the sub-cause of a corrupt one, StaleAck for an ACK, Unexpected for DATA or FIN. -/
def Decoded.senderCause : Decoded → Cause
  | .corrupt sub => .corruptFrame sub
  | .segment _ flag _ => if flag = flagAck then .staleAck else .unexpected

/-- What a receiver raises for a buffer it does not consume (44_stop_and_wait R216, R217, 45_go_back_n R246, R247):
the sub-cause of a corrupt one, Unexpected for an ACK. -/
def Decoded.receiverCause : Decoded → Cause
  | .corrupt sub => .corruptFrame sub
  | .segment _ _ _ => .unexpected

/-! ## Which machine is active (00_scope R3) -/

/-- The endpoint runs as this role and mode. -/
def runsAs (r : Role) (m : Mode) (s : State) : Bool :=
  decide (s.blk.ses.role = r) && decide (s.blk.ses.mode = m)

/-- `st` is `c`. -/
def inState (c : Ctl) (s : State) : Bool := decide (s.blk.st = c)

/-- `st` is LISTEN or CLOSED: the receiver still answers (10_state R29). -/
def answering (s : State) : Bool := inState .listen s || inState .closed s

/-! ## Shared answers of the two receivers (44_stop_and_wait R211 to R215, 45_go_back_n R241 to R245) -/

/-- The payload of segment `d` is delivered, `expected` advances, and the segment's own number is acknowledged. -/
def acceptData (newExpected : Half) (d : Decoded) (s : State) : State :=
  emit (mkAck s.blk.ses d.seqNum) (setExpected newExpected (deliver d.payload s))

/-- The end of the stream is signalled, `expected` advances, the FIN is acknowledged, and the receiver closes. -/
def acceptFin (newExpected : Half) (d : Decoded) (s : State) : State :=
  setSt .closed (emit (mkAck s.blk.ses d.seqNum) (setExpected newExpected (signalEos s)))

/-- The segment is discarded and the last acknowledgment, of `a`, is emitted again. -/
def reAck (c : Cause) (a : Half) (s : State) : State := emit (mkAck s.blk.ses a) (raise c s)

/-! ## Stop-and-wait sender -/

/-- The condition of SWS.PUSH: admitted, stop-and-wait sender (43_session_control R182). -/
def condSwsPush (p : List Byte) (s : State) : Bool :=
  runsAs .sender .sw s && decide (txAdmit .push p s = .ok)

/-- The condition of SWS.CLOSE. -/
def condSwsClose (s : State) : Bool := runsAs .sender .sw s && decide (txAdmit .close [] s = .ok)

/-- The valid awaited acknowledgment: `Segment(b, ACK, [])` (44_stop_and_wait R203). -/
def awaitedAck (buf : List Byte) (s : State) : Bool :=
  (dec s buf).hasFlag flagAck && (dec s buf).hasSeq (seqOfBit s.blk.b)

/-- The condition of SWS.ACK_OK. -/
def condSwsAckOk (buf : List Byte) (s : State) : Bool :=
  runsAs .sender .sw s && inState .awaitingAck s && awaitedAck buf s

/-- The condition of SWS.ACK_BAD: anything but the awaited acknowledgment; the dispatch word carries its class. -/
def condSwsAckBad (c : BitVec 3) (buf : List Byte) (s : State) : Bool :=
  runsAs .sender .sw s && inState .awaitingAck s && !awaitedAck buf s && decide (c = classOf (dec s buf))

/-- The condition of SWS.TIMEOUT. -/
def condSwsTimeout (s : State) : Bool := runsAs .sender .sw s && inState .awaitingAck s && tmExpired s

/-- The condition of SWS.RX_READY: any class, the buffer is not decoded. -/
def condSwsRxReady (s : State) : Bool := runsAs .sender .sw s && inState .ready s

/-- The stored frame is emitted again unchanged and its timer re-armed (44_stop_and_wait R204, R205). -/
def resendHead (e : Entry) (rest : List Entry) (s : State) : State :=
  setRtx (armEntry s e :: rest) (emit e.frame s)

/-- SWS.PUSH (44_stop_and_wait R201). -/
def execSwsPush (p : List Byte) (s : State) : Out :=
  guarded (condSwsPush p s) (accept (setSt .awaitingAck (sendSegment (seqOfBit s.blk.b) flagData p s)))

/-- SWS.CLOSE: the FIN takes the next alternating bit (44_stop_and_wait R202). -/
def execSwsClose (s : State) : Out :=
  guarded (condSwsClose s)
    (accept (setSt .awaitingAck (setFin true (sendSegment (seqOfBit s.blk.b) flagFin [] s))))

/-- SWS.ACK_OK: the timer is cancelled, `b` flips, and the session is done if the FIN was acknowledged
(44_stop_and_wait R203). -/
def execSwsAckOk (buf : List Byte) (s : State) : Out :=
  guarded (condSwsAckOk buf s)
    (setSt (if s.blk.fin then .done else .ready) (setB (flipBit s.blk.b) (cancelOldest 1 s)))

/-- SWS.ACK_BAD: the arrival of anything else triggers an immediate resend (44_stop_and_wait R204, 90_conflicts C1). -/
def execSwsAckBad (c : BitVec 3) (buf : List Byte) (s : State) : Out :=
  if condSwsAckBad c buf s then
    match s.blk.rtx with
    | [] => .fault .queueEmpty
    | e :: rest => .next (setRetxSeen (resendHead e rest (raise (dec s buf).senderCause s)))
  else .fault .conditionFalse

/-- SWS.TIMEOUT: the timer fired (44_stop_and_wait R205). -/
def execSwsTimeout (s : State) : Out :=
  if condSwsTimeout s then
    match s.blk.rtx with
    | [] => .fault .queueEmpty
    | e :: rest => .next (resendHead e rest (raise .timeout s))
  else .fault .conditionFalse

/-- SWS.RX_READY: 'nothing is emitted, raised or changed' (44_stop_and_wait R206). -/
def execSwsRxReady (_c : BitVec 3) (_buf : List Byte) (s : State) : Out := guarded (condSwsRxReady s) s

/-! ## Stop-and-wait receiver -/

/-- The condition of SWR.DATA_OK. -/
def condSwrDataOk (buf : List Byte) (s : State) : Bool :=
  runsAs .receiver .sw s && inState .listen s && (dec s buf).hasFlag flagData && (dec s buf).hasSeq s.blk.expected

/-- The condition of SWR.DATA_DUP. -/
def condSwrDataDup (buf : List Byte) (s : State) : Bool :=
  runsAs .receiver .sw s && inState .listen s && (dec s buf).hasFlag flagData && !(dec s buf).hasSeq s.blk.expected

/-- The condition of SWR.FIN_OK. -/
def condSwrFinOk (buf : List Byte) (s : State) : Bool :=
  runsAs .receiver .sw s && inState .listen s && (dec s buf).hasFlag flagFin && (dec s buf).hasSeq s.blk.expected

/-- The condition of SWR.FIN_DUP. -/
def condSwrFinDup (buf : List Byte) (s : State) : Bool :=
  runsAs .receiver .sw s && inState .listen s && (dec s buf).hasFlag flagFin && !(dec s buf).hasSeq s.blk.expected

/-- The flag a CLOSED_REACK dispatch word names: 0 = DATA, 1 = FIN. -/
def reackFlag (c : BitVec 1) : Byte := if c = 0 then flagData else flagFin

/-- The condition of SWR.CLOSED_REACK. -/
def condSwrClosedReack (c : BitVec 1) (buf : List Byte) (s : State) : Bool :=
  runsAs .receiver .sw s && inState .closed s && (dec s buf).hasFlag (reackFlag c)

/-- The condition of SWR.CORRUPT. -/
def condSwrCorrupt (buf : List Byte) (s : State) : Bool :=
  runsAs .receiver .sw s && answering s && (dec s buf).isCorrupt

/-- The condition of SWR.ACK_IGN. -/
def condSwrAckIgn (buf : List Byte) (s : State) : Bool :=
  runsAs .receiver .sw s && answering s && (dec s buf).hasFlag flagAck

/-- SWR.DATA_OK (44_stop_and_wait R211). -/
def execSwrDataOk (buf : List Byte) (s : State) : Out :=
  guarded (condSwrDataOk buf s) (acceptData (otherSeq s.blk.expected) (dec s buf) s)

/-- SWR.DATA_DUP (44_stop_and_wait R212). -/
def execSwrDataDup (buf : List Byte) (s : State) : Out :=
  guarded (condSwrDataDup buf s) (reAck .duplicate (otherSeq s.blk.expected) s)

/-- SWR.FIN_OK (44_stop_and_wait R213). -/
def execSwrFinOk (buf : List Byte) (s : State) : Out :=
  guarded (condSwrFinOk buf s) (acceptFin (otherSeq s.blk.expected) (dec s buf) s)

/-- SWR.FIN_DUP (44_stop_and_wait R214). -/
def execSwrFinDup (buf : List Byte) (s : State) : Out :=
  guarded (condSwrFinDup buf s) (reAck .duplicate (otherSeq s.blk.expected) s)

/-- SWR.CLOSED_REACK (44_stop_and_wait R215). -/
def execSwrClosedReack (c : BitVec 1) (buf : List Byte) (s : State) : Out :=
  guarded (condSwrClosedReack c buf s) (reAck .duplicate (otherSeq s.blk.expected) s)

/-- SWR.CORRUPT (44_stop_and_wait R216). -/
def execSwrCorrupt (buf : List Byte) (s : State) : Out :=
  guarded (condSwrCorrupt buf s) (raise (dec s buf).receiverCause s)

/-- SWR.ACK_IGN (44_stop_and_wait R217). -/
def execSwrAckIgn (buf : List Byte) (s : State) : Out :=
  guarded (condSwrAckIgn buf s) (raise .unexpected s)

end Sys2Proof.Machine
end

