-- ==== Sys2Proof/Machine/GoBackN.lean ====
section
/-! DEFINITION. The Go-Back-N sender with its acknowledgment accumulator and the Go-Back-N receiver (45_go_back_n):
GBS.PUSH, GBS.CLOSE, GBS.ACK, GBS.ACK_STALE, GBS.DISCARD, GBS.TIMEOUT, GBR.DATA_OK, GBR.DATA_OOO, GBR.FIN_OK,
GBR.FIN_OOO, GBR.CLOSED_REACK, GBR.CORRUPT, GBR.ACK_IGN. -/

namespace Sys2Proof.Machine

/-! ## Sender -/

/-- The condition of GBS.PUSH: admitted, Go-Back-N sender (43_session_control R182). -/
def condGbsPush (p : List Byte) (s : State) : Bool :=
  runsAs .sender .gbn s && decide (txAdmit .push p s = .ok)

/-- The condition of GBS.CLOSE. -/
def condGbsClose (s : State) : Bool := runsAs .sender .gbn s && decide (txAdmit .close [] s = .ok)

/-- The accumulator's `d = (a − base) mod M` (45_go_back_n R237). -/
def ackDist (a : Half) (s : State) : Nat := seqDist a s.blk.base s.blk.ses.m

/-- The acknowledgment is new: `d < |rtx|` (45_go_back_n R237). -/
def ackIsNew (a : Half) (s : State) : Bool := decide (ackDist a s < s.blk.rtx.length)

/-- The condition of GBS.ACK. -/
def condGbsAck (buf : List Byte) (s : State) : Bool :=
  runsAs .sender .gbn s && inState .ready s && (dec s buf).hasFlag flagAck && ackIsNew (dec s buf).seqNum s

/-- The condition of GBS.ACK_STALE. -/
def condGbsAckStale (buf : List Byte) (s : State) : Bool :=
  runsAs .sender .gbn s && inState .ready s && (dec s buf).hasFlag flagAck && !ackIsNew (dec s buf).seqNum s

/-- The condition of GBS.DISCARD: a buffer that is no ACK; the dispatch word carries its class. -/
def condGbsDiscard (c : BitVec 3) (buf : List Byte) (s : State) : Bool :=
  runsAs .sender .gbn s && inState .ready s && !(dec s buf).hasFlag flagAck && decide (c = classOf (dec s buf))

/-- The condition of GBS.TIMEOUT. -/
def condGbsTimeout (s : State) : Bool := runsAs .sender .gbn s && inState .ready s && tmExpired s

/-- A new segment of the window: sent with number `next`, which then advances modulo `M` (45_go_back_n R231, R232). -/
def sendNext (flag : Byte) (p : List Byte) (s : State) : State :=
  setNxt (seqSucc s.blk.nxt s.blk.ses.m) (sendSegment s.blk.nxt flag p s)

/-- The `d + 1` entries an acknowledgment of `a` covers are retired and `base` moves past them; the surviving deadlines
are kept (45_go_back_n R233, R239). -/
def retire (a : Half) (s : State) : State :=
  setBase (seqSucc a s.blk.ses.m) (cancelOldest (ackDist a s + 1) s)

/-- `if fin = 1 and |rtx| = 0: st <- DONE` (45_go_back_n R233). -/
def finishIfDrained (s : State) : State := if s.blk.fin && decide (s.blk.rtx = []) then setSt .done s else s

/-- The whole window is emitted again, oldest first, and every entry re-armed at the one value of `now`
(45_go_back_n R236). -/
def resendWindow (s : State) : State := setRtx (armAll s) (emitAll (s.blk.rtx.map Entry.frame) s)

/-- GBS.PUSH (45_go_back_n R231). -/
def execGbsPush (p : List Byte) (s : State) : Out :=
  guarded (condGbsPush p s) (accept (sendNext flagData p s))

/-- GBS.CLOSE: the FIN takes a number and a window slot; `st` stays READY (45_go_back_n R232). -/
def execGbsClose (s : State) : Out :=
  guarded (condGbsClose s) (accept (setFin true (sendNext flagFin [] s)))

/-- GBS.ACK (45_go_back_n R233). -/
def execGbsAck (buf : List Byte) (s : State) : Out :=
  guarded (condGbsAck buf s) (finishIfDrained (retire (dec s buf).seqNum s))

/-- GBS.ACK_STALE: 'Nothing else' than the raise (45_go_back_n R234). -/
def execGbsAckStale (buf : List Byte) (s : State) : Out :=
  guarded (condGbsAckStale buf s) (raise .staleAck s)

/-- GBS.DISCARD (45_go_back_n R235). -/
def execGbsDiscard (c : BitVec 3) (buf : List Byte) (s : State) : Out :=
  guarded (condGbsDiscard c buf s) (raise (dec s buf).senderCause s)

/-- GBS.TIMEOUT (45_go_back_n R236). -/
def execGbsTimeout (s : State) : Out := guarded (condGbsTimeout s) (resendWindow (raise .timeout s))

/-! ## Receiver -/

/-- The condition of GBR.DATA_OK. -/
def condGbrDataOk (buf : List Byte) (s : State) : Bool :=
  runsAs .receiver .gbn s && inState .listen s && (dec s buf).hasFlag flagData && (dec s buf).hasSeq s.blk.expected

/-- The condition of GBR.DATA_OOO. -/
def condGbrDataOoo (buf : List Byte) (s : State) : Bool :=
  runsAs .receiver .gbn s && inState .listen s && (dec s buf).hasFlag flagData && !(dec s buf).hasSeq s.blk.expected

/-- The condition of GBR.FIN_OK. -/
def condGbrFinOk (buf : List Byte) (s : State) : Bool :=
  runsAs .receiver .gbn s && inState .listen s && (dec s buf).hasFlag flagFin && (dec s buf).hasSeq s.blk.expected

/-- The condition of GBR.FIN_OOO. -/
def condGbrFinOoo (buf : List Byte) (s : State) : Bool :=
  runsAs .receiver .gbn s && inState .listen s && (dec s buf).hasFlag flagFin && !(dec s buf).hasSeq s.blk.expected

/-- The condition of GBR.CLOSED_REACK. -/
def condGbrClosedReack (c : BitVec 1) (buf : List Byte) (s : State) : Bool :=
  runsAs .receiver .gbn s && inState .closed s && (dec s buf).hasFlag (reackFlag c)

/-- The condition of GBR.CORRUPT. -/
def condGbrCorrupt (buf : List Byte) (s : State) : Bool :=
  runsAs .receiver .gbn s && answering s && (dec s buf).isCorrupt

/-- The condition of GBR.ACK_IGN. -/
def condGbrAckIgn (buf : List Byte) (s : State) : Bool :=
  runsAs .receiver .gbn s && answering s && (dec s buf).hasFlag flagAck

/-- `(expected + 1) mod M`. -/
def expectedSucc (s : State) : Half := seqSucc s.blk.expected s.blk.ses.m

/-- `(expected − 1) mod M`, the last cumulative acknowledgment (45_go_back_n R240). -/
def expectedPred (s : State) : Half := seqPred s.blk.expected s.blk.ses.m

/-- GBR.DATA_OK (45_go_back_n R241). -/
def execGbrDataOk (buf : List Byte) (s : State) : Out :=
  guarded (condGbrDataOk buf s) (acceptData (expectedSucc s) (dec s buf) s)

/-- GBR.DATA_OOO: the segment is never buffered (45_go_back_n R242). -/
def execGbrDataOoo (buf : List Byte) (s : State) : Out :=
  guarded (condGbrDataOoo buf s) (reAck .outOfOrder (expectedPred s) s)

/-- GBR.FIN_OK (45_go_back_n R243). -/
def execGbrFinOk (buf : List Byte) (s : State) : Out :=
  guarded (condGbrFinOk buf s) (acceptFin (expectedSucc s) (dec s buf) s)

/-- GBR.FIN_OOO (45_go_back_n R244). -/
def execGbrFinOoo (buf : List Byte) (s : State) : Out :=
  guarded (condGbrFinOoo buf s) (reAck .outOfOrder (expectedPred s) s)

/-- GBR.CLOSED_REACK (45_go_back_n R245). -/
def execGbrClosedReack (c : BitVec 1) (buf : List Byte) (s : State) : Out :=
  guarded (condGbrClosedReack c buf s) (reAck .outOfOrder (expectedPred s) s)

/-- GBR.CORRUPT (45_go_back_n R246). -/
def execGbrCorrupt (buf : List Byte) (s : State) : Out :=
  guarded (condGbrCorrupt buf s) (raise (dec s buf).receiverCause s)

/-- GBR.ACK_IGN (45_go_back_n R247). -/
def execGbrAckIgn (buf : List Byte) (s : State) : Out :=
  guarded (condGbrAckIgn buf s) (raise .unexpected s)

end Sys2Proof.Machine
end

