-- ==== Sys2Proof/Machine/Events.lean ====
section
/-! DEFINITION. Which rule handles an event (43_session_control R182): the handling of an inbound buffer and of each host
command, and with it the meanings of the frame rows and the command rows; and the conditions that choose among the rows a
dispatch word matches (30_encoding R103). -/

namespace Sys2Proof.Machine

/-- The role bit of a dispatch word formed now. -/
def roleNow (s : State) : BitVec 1 := roleBit s.blk.ses.role
/-- The mode bit of a dispatch word formed now. -/
def modeNow (s : State) : BitVec 1 := modeBit s.blk.ses.mode

/-! ## RX_FRAME -/

/-- The stop-and-wait sender's rule for a buffer. -/
def rxSws (buf : List Byte) (s : State) : Out :=
  match s.blk.st with
  | .ready => execSwsRxReady 0 buf s
  | .awaitingAck =>
    if awaitedAck buf s then execSwsAckOk buf s else execSwsAckBad (classOf (dec s buf)) buf s
  | .idle | .done | .listen | .closed | .aborted => .fault .noRule

/-- The Go-Back-N sender's rule for a buffer. -/
def rxGbs (buf : List Byte) (s : State) : Out :=
  match s.blk.st with
  | .ready =>
    if (dec s buf).hasFlag flagAck then
      if ackIsNew (dec s buf).seqNum s then execGbsAck buf s else execGbsAckStale buf s
    else execGbsDiscard (classOf (dec s buf)) buf s
  | .idle | .awaitingAck | .done | .listen | .closed | .aborted => .fault .noRule

/-- The stop-and-wait receiver's rule for a buffer. -/
def rxSwr (buf : List Byte) (s : State) : Out :=
  match s.blk.st with
  | .listen =>
    if (dec s buf).isCorrupt then execSwrCorrupt buf s
    else if (dec s buf).hasFlag flagAck then execSwrAckIgn buf s
    else if (dec s buf).hasFlag flagData then
      if (dec s buf).hasSeq s.blk.expected then execSwrDataOk buf s else execSwrDataDup buf s
    else if (dec s buf).hasSeq s.blk.expected then execSwrFinOk buf s
    else execSwrFinDup buf s
  | .closed =>
    if (dec s buf).isCorrupt then execSwrCorrupt buf s
    else if (dec s buf).hasFlag flagAck then execSwrAckIgn buf s
    else if (dec s buf).hasFlag flagData then execSwrClosedReack 0 buf s
    else execSwrClosedReack 1 buf s
  | .idle | .ready | .awaitingAck | .done | .aborted => .fault .noRule

/-- The Go-Back-N receiver's rule for a buffer. -/
def rxGbr (buf : List Byte) (s : State) : Out :=
  match s.blk.st with
  | .listen =>
    if (dec s buf).isCorrupt then execGbrCorrupt buf s
    else if (dec s buf).hasFlag flagAck then execGbrAckIgn buf s
    else if (dec s buf).hasFlag flagData then
      if (dec s buf).hasSeq s.blk.expected then execGbrDataOk buf s else execGbrDataOoo buf s
    else if (dec s buf).hasSeq s.blk.expected then execGbrFinOk buf s
    else execGbrFinOoo buf s
  | .closed =>
    if (dec s buf).isCorrupt then execGbrCorrupt buf s
    else if (dec s buf).hasFlag flagAck then execGbrAckIgn buf s
    else if (dec s buf).hasFlag flagData then execGbrClosedReack 0 buf s
    else execGbrClosedReack 1 buf s
  | .idle | .ready | .awaitingAck | .done | .aborted => .fault .noRule

/-- The event `RX_FRAME(buf)` (43_session_control R182, R190). An inactive endpoint does not decode the buffer, so its
dispatch word carries no computed class (log 15). -/
def rxFrame (buf : List Byte) (s : State) : Out :=
  if s.blk.st.isInactive then execRxInactive (roleNow s) (modeNow s) 0 buf s
  else match s.blk.ses.role, s.blk.ses.mode with
    | .sender, .sw => rxSws buf s
    | .sender, .gbn => rxGbs buf s
    | .receiver, .sw => rxSwr buf s
    | .receiver, .gbn => rxGbr buf s

/-- DATA: a buffer with this header arrives at `ch_in`; the role and the state decide what it does, once DECODE accepts
it (30_encoding R96, 41_segment_framer R145). -/
def execFrameData (seq len : Half) (rest : List Byte) (s : State) : Out :=
  rxFrame (encode (.frameData seq len rest)).2 s

/-- ACK (30_encoding R97). -/
def execFrameAck (seq : Half) (rest : List Byte) (s : State) : Out := rxFrame (encode (.frameAck seq rest)).2 s

/-- FIN (30_encoding R98). -/
def execFrameFin (seq : Half) (rest : List Byte) (s : State) : Out := rxFrame (encode (.frameFin seq rest)).2 s

/-- FRAME.ILLEGAL: a buffer with no legal header arrives; where it is decoded DECODE rejects it (30_encoding R99). -/
def execFrameIllegal (buf : List Byte) (s : State) : Out := rxFrame buf s

/-! ## Host commands -/

/-- CMD.OPEN (43_session_control R182: R185 before R184 before R183). -/
def execCmdOpen (s : State) : Out :=
  if s.blk.st.isActive then execEvOpenBadstate (roleNow s) (modeNow s) s
  else if cfgLegal s.hw s.blk.cfg then execEvOpen (roleNow s) (modeNow s) s
  else execEvOpenBadcfg (roleNow s) (modeNow s) s

/-- CMD.TX_PUSH: refused by `tx_admit`, or the mode's PUSH rule (43_session_control R182, R189). -/
def execCmdTxPush (p : List Byte) (s : State) : Out :=
  if txAdmit .push p s ≠ .ok then execTxRefuse (roleNow s) (modeNow s) .push p s
  else match s.blk.ses.mode with
    | .sw => execSwsPush p s
    | .gbn => execGbsPush p s

/-- CMD.TX_CLOSE: refused by `tx_admit`, or the mode's CLOSE rule (43_session_control R182, R189). -/
def execCmdTxClose (s : State) : Out :=
  if txAdmit .close [] s ≠ .ok then execTxRefuse (roleNow s) (modeNow s) .close [] s
  else match s.blk.ses.mode with
    | .sw => execSwsClose s
    | .gbn => execGbsClose s

/-- CMD.ABORT (43_session_control R186, R187). -/
def execCmdAbort (cause : Byte) (s : State) : Out :=
  if condAbort s then execEvAbort (roleNow s) (modeNow s) cause s
  else execEvAbortBadstate (roleNow s) (modeNow s) cause s

/-- CMD.RESERVED: `refuse(BADCMD)` in every state (43_session_control R188). -/
def execCmdReserved (_code : Byte) (s : State) : Out := .next (refuse .badCmd s)

/-! ## The condition of a row -/

/-- The condition 'on the state and operands that the rule states' under which a row of the opcode table applies
(30_encoding R103). A frame, a command or a unit operation has none. -/
def enabled (i : Instr) (s : State) : Bool :=
  match i with
  | .frameData _ _ _ => true
  | .frameAck _ _ => true
  | .frameFin _ _ => true
  | .frameIllegal _ => true
  | .cmdOpen => true
  | .cmdTxPush _ => true
  | .cmdTxClose => true
  | .cmdAbort _ => true
  | .cmdReserved _ => true
  | .csum16 _ => true
  | .csum16v _ _ => true
  | .crc16 _ => true
  | .crc16v _ _ => true
  | .encode _ _ _ => true
  | .decode _ => true
  | .tmTick => true
  | .tmArm _ => true
  | .tmCancel _ => true
  | .tmCancelAll => true
  | .tmExpired => true
  | .evOpen _ _ => condOpen s
  | .evOpenBadcfg _ _ => condOpenBadcfg s
  | .evOpenBadstate _ _ => condOpenBadstate s
  | .evAbort _ _ _ => condAbort s
  | .evAbortBadstate _ _ _ => !condAbort s
  | .txRefuse _ _ kind p => decide (txAdmit kind p s ≠ .ok)
  | .rxInactive _ _ _ _ => s.blk.st.isInactive
  | .evTick _ _ => true
  | .swsPush p => condSwsPush p s
  | .swsClose => condSwsClose s
  | .swsAckOk buf => condSwsAckOk buf s
  | .swsAckBad c buf => condSwsAckBad c buf s
  | .swsTimeout => condSwsTimeout s
  | .swsRxReady _ _ => condSwsRxReady s
  | .swrDataOk buf => condSwrDataOk buf s
  | .swrDataDup buf => condSwrDataDup buf s
  | .swrFinOk buf => condSwrFinOk buf s
  | .swrFinDup buf => condSwrFinDup buf s
  | .swrClosedReack c buf => condSwrClosedReack c buf s
  | .swrCorrupt buf => condSwrCorrupt buf s
  | .swrAckIgn buf => condSwrAckIgn buf s
  | .gbsPush p => condGbsPush p s
  | .gbsClose => condGbsClose s
  | .gbsAck buf => condGbsAck buf s
  | .gbsAckStale buf => condGbsAckStale buf s
  | .gbsDiscard c buf => condGbsDiscard c buf s
  | .gbsTimeout => condGbsTimeout s
  | .gbrDataOk buf => condGbrDataOk buf s
  | .gbrDataOoo buf => condGbrDataOoo buf s
  | .gbrFinOk buf => condGbrFinOk buf s
  | .gbrFinOoo buf => condGbrFinOoo buf s
  | .gbrClosedReack c buf => condGbrClosedReack c buf s
  | .gbrCorrupt buf => condGbrCorrupt buf s
  | .gbrAckIgn buf => condGbrAckIgn buf s

end Sys2Proof.Machine
end

