-- ==== Sys2Proof/Machine/Fetch.lean ====
section
/-! DEFINITION. What a step takes up next: the environment's agenda (log 3), arbitration among the offered events
(43_session_control R181), the operation word of the event taken, and the choice of the row whose condition holds
(30_encoding R103). -/

namespace Sys2Proof.Machine

/-! ## Arbitration -/

/-- An `ABORT` command, code 0x04 (30_encoding R101). -/
def HostCmd.isAbort (c : HostCmd) : Bool := decide (c.code = 0x04#8)

/-- What the endpoint takes when it is free. -/
inductive Taken where
  /-- The presented command; `rest` are the commands behind it. -/
  | command (c : HostCmd) (rest : List HostCmd)
  /-- The oldest delivered datagram; `rest` are those behind it. -/
  | frame (buf : Datagram) (rest : List Datagram)
  /-- The expired timer. -/
  | timeout
  /-- Nothing is offered. -/
  | nothing
deriving DecidableEq, Repr

/-- The choice among sources (2) to (4) of 43_session_control R181: an `RX_FRAME`, then `TIMEOUT`, then any other
command. -/
def takeOther (s : State) : Taken :=
  match s.env.chIn with
  | buf :: rest => .frame buf rest
  | [] =>
    if timeoutEnabled s then .timeout
    else match s.env.cmds with
      | c :: rest => .command c rest
      | [] => .nothing

/-- Arbitration (43_session_control R181): an `ABORT` command first. The order is the spec's own (D13; log 4). -/
def arbitrate (s : State) : Taken :=
  match s.env.cmds with
  | c :: rest => if c.isAbort then .command c rest else takeOther s
  | [] => takeOther s

/-- The event one source has to offer (43_session_control R181, 'may let any enabled event be handled next'; log 4). -/
def offered (src : EventSource) (s : State) : Taken :=
  match src with
  | .command =>
    match s.env.cmds with
    | c :: rest => .command c rest
    | [] => .nothing
  | .frame =>
    match s.env.chIn with
    | buf :: rest => .frame buf rest
    | [] => .nothing
  | .timeout => if timeoutEnabled s then .timeout else .nothing

/-! ## The next happening -/

/-- What the step has taken up: a happening that is no event of the block and is already complete, or an operation word
to run in the state the taking leaves. -/
inductive Fetched where
  | still (t : State)
  | word (f : Format) (bs : List Byte) (t : State)
deriving DecidableEq, Repr

/-- The word of the `TIMEOUT` event: `role ‖ mode ‖ 110 ‖ 000` (30_encoding R103). -/
def timeoutWord (s : State) : List Byte := [dwByte (roleNow s) (modeNow s) 6 0]

/-- The word of the `TICK` event: `role ‖ mode ‖ 111 ‖ 000` (30_encoding R103). -/
def tickWord (s : State) : List Byte := [dwByte (roleNow s) (modeNow s) 7 0]

/-- The word of the event taken. With nothing offered the block does nothing (70_reset_and_hazards R291; log 13). -/
def fetchTaken (taken : Taken) (s : State) : Fetched :=
  match taken with
  | .command c rest => .word .cmd (cmdWord c) { s with env := { s.env with cmds := rest } }
  | .frame buf rest => .word .frame buf { s with env := { s.env with chIn := rest } }
  | .timeout => .word .dw (timeoutWord s) s
  | .nothing => .still s

/-- The endpoint serves: the word of the event arbitration takes. -/
def fetchEvent (s : State) : Fetched := fetchTaken (arbitrate s) s

/-- One moment of the agenda. -/
def fetchMoment (m : Moment) (s : State) : Fetched :=
  match m with
  | .arrive buf => .still { s with env := { s.env with chIn := s.env.chIn ++ [buf] } }
  | .command c => .still { s with env := { s.env with cmds := s.env.cmds ++ [c] } }
  | .tick => .word .dw (tickWord s) s
  | .csrRead n => .still (csrRead n s)
  | .csrWrite n v => .still (csrWrite n v s)
  | .reset => .still (assertReset s)
  | .serve => fetchEvent s
  | .pick src => fetchTaken (offered src s) s
  | .issue f bs => .word f bs s

/-- The next happening: the first moment of the agenda, or service where the agenda is empty. -/
def fetch (s : State) : Fetched :=
  match s.env.agenda with
  | [] => fetchEvent s
  | m :: rest => fetchMoment m { s with env := { s.env with agenda := rest } }

/-! ## Decoding in a state -/

/-- The operation a word is in this state: of the rows a dispatch word matches, the one whose condition holds
(30_encoding R103, 43_session_control R182); any other word, and a dispatch word with no such row, is as `decode` reads
it. -/
def decodeIn (s : State) (f : Format) (bs : List Byte) : Except DecodeError Instr :=
  match f, bs with
  | .dw, w :: ops =>
    match (dwRows w ops).find? (fun i => enabled i s) with
    | some i => .ok i
    | none => decode .dw (w :: ops)
  | f, bs => decode f bs

/-- The agenda with an operation word issued first (log 12). -/
def issueFirst (f : Format) (bs : List Byte) (s : State) : State :=
  { s with env := { s.env with agenda := .issue f bs :: s.env.agenda } }

end Sys2Proof.Machine
end

