-- ==== Sys2Proof/Machine/Dispatch.lean ====
section
/-! DEFINITION. The meaning of every operation, one arm per row of the opcode table, in the table's order. -/

namespace Sys2Proof.Machine

def exec (i : Instr) (s : State) : Host.Outcome State Fault Refusal :=
  match i with
  | .frameData seq len rest => Sys2Proof.Machine.execFrameData seq len rest s
  | .frameAck seq rest => Sys2Proof.Machine.execFrameAck seq rest s
  | .frameFin seq rest => Sys2Proof.Machine.execFrameFin seq rest s
  | .frameIllegal buf => Sys2Proof.Machine.execFrameIllegal buf s
  | .cmdOpen => Sys2Proof.Machine.execCmdOpen s
  | .cmdTxPush p => Sys2Proof.Machine.execCmdTxPush p s
  | .cmdTxClose => Sys2Proof.Machine.execCmdTxClose s
  | .cmdAbort cause => Sys2Proof.Machine.execCmdAbort cause s
  | .cmdReserved code => Sys2Proof.Machine.execCmdReserved code s
  | .csum16 bytes => Sys2Proof.Machine.execCsum16 bytes s
  | .csum16v c bytes => Sys2Proof.Machine.execCsum16v c bytes s
  | .crc16 bytes => Sys2Proof.Machine.execCrc16 bytes s
  | .crc16v c bytes => Sys2Proof.Machine.execCrc16v c bytes s
  | .encode seq flag p => Sys2Proof.Machine.execEncode seq flag p s
  | .decode buf => Sys2Proof.Machine.execDecode buf s
  | .tmTick => Sys2Proof.Machine.execTmTick s
  | .tmArm target => Sys2Proof.Machine.execTmArm target s
  | .tmCancel k => Sys2Proof.Machine.execTmCancel k s
  | .tmCancelAll => Sys2Proof.Machine.execTmCancelAll s
  | .tmExpired => Sys2Proof.Machine.execTmExpired s
  | .evOpen r m => Sys2Proof.Machine.execEvOpen r m s
  | .evOpenBadcfg r m => Sys2Proof.Machine.execEvOpenBadcfg r m s
  | .evOpenBadstate r m => Sys2Proof.Machine.execEvOpenBadstate r m s
  | .evAbort r m cause => Sys2Proof.Machine.execEvAbort r m cause s
  | .evAbortBadstate r m cause => Sys2Proof.Machine.execEvAbortBadstate r m cause s
  | .txRefuse r m kind p => Sys2Proof.Machine.execTxRefuse r m kind p s
  | .rxInactive r m c buf => Sys2Proof.Machine.execRxInactive r m c buf s
  | .evTick r m => Sys2Proof.Machine.execEvTick r m s
  | .swsPush p => Sys2Proof.Machine.execSwsPush p s
  | .swsClose => Sys2Proof.Machine.execSwsClose s
  | .swsAckOk buf => Sys2Proof.Machine.execSwsAckOk buf s
  | .swsAckBad c buf => Sys2Proof.Machine.execSwsAckBad c buf s
  | .swsTimeout => Sys2Proof.Machine.execSwsTimeout s
  | .swsRxReady c buf => Sys2Proof.Machine.execSwsRxReady c buf s
  | .swrDataOk buf => Sys2Proof.Machine.execSwrDataOk buf s
  | .swrDataDup buf => Sys2Proof.Machine.execSwrDataDup buf s
  | .swrFinOk buf => Sys2Proof.Machine.execSwrFinOk buf s
  | .swrFinDup buf => Sys2Proof.Machine.execSwrFinDup buf s
  | .swrClosedReack c buf => Sys2Proof.Machine.execSwrClosedReack c buf s
  | .swrCorrupt buf => Sys2Proof.Machine.execSwrCorrupt buf s
  | .swrAckIgn buf => Sys2Proof.Machine.execSwrAckIgn buf s
  | .gbsPush p => Sys2Proof.Machine.execGbsPush p s
  | .gbsClose => Sys2Proof.Machine.execGbsClose s
  | .gbsAck buf => Sys2Proof.Machine.execGbsAck buf s
  | .gbsAckStale buf => Sys2Proof.Machine.execGbsAckStale buf s
  | .gbsDiscard c buf => Sys2Proof.Machine.execGbsDiscard c buf s
  | .gbsTimeout => Sys2Proof.Machine.execGbsTimeout s
  | .gbrDataOk buf => Sys2Proof.Machine.execGbrDataOk buf s
  | .gbrDataOoo buf => Sys2Proof.Machine.execGbrDataOoo buf s
  | .gbrFinOk buf => Sys2Proof.Machine.execGbrFinOk buf s
  | .gbrFinOoo buf => Sys2Proof.Machine.execGbrFinOoo buf s
  | .gbrClosedReack c buf => Sys2Proof.Machine.execGbrClosedReack c buf s
  | .gbrCorrupt buf => Sys2Proof.Machine.execGbrCorrupt buf s
  | .gbrAckIgn buf => Sys2Proof.Machine.execGbrAckIgn buf s

end Sys2Proof.Machine
end

