-- ==== Sys2Proof/Machine/Step.lean ====
section
/-! DEFINITION. One step: what the fetch takes up is complete, or its word is decoded and run. -/

namespace Sys2Proof.Machine

/-- One happening at the endpoint: at most one event, handled to completion (00_scope R15, 43_session_control R180). -/
def step (s : State) : Host.Outcome State Fault Refusal :=
  match fetch s with
  | .still t => .next t
  | .word f bs t =>
    match decodeIn t f bs with
    | .ok i => exec i t
    | .error e => .refused (.undecodable e)

/-- `s` with a row's word issued first, so that the next step decodes and runs it (log 12). -/
def State.withFetchWord (s : State) (nbits w : Nat) : State :=
  match tableWord nbits w with
  | some (f, bs) => issueFirst f bs s
  | none => s

end Sys2Proof.Machine
end

