-- ==== Sys2Proof/Machine/Link.lean ====
section
/-! DEFINITION. Beside the core: two instances joined by two one-way channels, which the spec gives as the contract of the
environment (20_memory R49, R72 to R74; log 22). The core itself is one instance; nothing in it refers to this file. -/

namespace Sys2Proof.Machine

/-- A direction of the channel: the forward (data) direction or the return (ACK) direction (20_memory R74). -/
inductive Dir where
  | fwd
  | ret
deriving DecidableEq, Repr

/-- One one-way channel: the datagrams in flight, oldest first, and the adapter's loss policy for the datagrams still to
be sent, 'an explicit, injectable channel policy value': `true` swallows one; beyond its end every one is carried
(20_memory R72, R73). -/
structure Channel where
  flight : List Datagram
  policy : List Bool
deriving DecidableEq, Repr

/-- The adapter's `send` of one datagram: 'silently swallowed' or put in flight behind the others (20_memory R73). -/
def Channel.send (f : Datagram) (c : Channel) : Channel :=
  match c.policy with
  | [] => { flight := c.flight ++ [f], policy := [] }
  | true :: rest => { flight := c.flight, policy := rest }
  | false :: rest => { flight := c.flight ++ [f], policy := rest }

/-- Several datagrams are sent, in order; the policy is consulted for each (20_memory R73, R76). -/
def Channel.sendAll (fs : List Datagram) (c : Channel) : Channel :=
  match fs with
  | [] => c
  | f :: rest => Channel.sendAll rest (Channel.send f c)

/-- Two endpoints and what stands between them. They share nothing else (00_scope R3). -/
structure Link where
  /-- The endpoint whose `ch_out` is the forward channel. -/
  snd : State
  /-- The endpoint whose `ch_out` is the return channel. -/
  rcv : State
  fwd : Channel
  ret : Channel
  /-- The payloads `TX_PUSH` has taken from the source at `snd`, in the order accepted (20_memory R80). -/
  accepted : List (List Byte)
deriving DecidableEq, Repr

/-- What happens next at a link. -/
inductive LinkMove where
  /-- The sending endpoint makes one step. -/
  | stepSnd
  /-- The receiving endpoint makes one step. -/
  | stepRcv
  /-- The environment puts a moment on the agenda of the sending endpoint. -/
  | offerSnd (m : Moment)
  /-- The environment puts a moment on the agenda of the receiving endpoint. -/
  | offerRcv (m : Moment)
  /-- A copy of the oldest datagram in flight is delivered; the datagram may be delivered again. -/
  | deliver (d : Dir)
  /-- An altered copy of the oldest datagram in flight is delivered. -/
  | alter (d : Dir) (buf : Datagram)
  /-- The oldest datagram in flight leaves the channel. -/
  | drop (d : Dir)
deriving DecidableEq, Repr

/-- What a step has emitted: the datagrams of the output log beyond those emitted before it. -/
def newlyEmitted (s t : State) : List Datagram := (chOut t).drop (chOut s).length

/-- The payload that the next step of `s` takes from the source: that of an admitted `TX_PUSH` (43_session_control
R189). -/
def acceptedNext (s : State) : List (List Byte) :=
  match fetch s with
  | .still _ => []
  | .word f bs t =>
    match decodeIn t f bs with
    | .ok i =>
      match (encode i).1, (encode i).2 with
      | .cmd, code :: p => if code = 0x02#8 ∧ txAdmit .push p t = .ok then [p] else []
      | _, _ => []
    | .error _ => []

/-- A moment is added behind the others on an agenda. -/
def offerMoment (m : Moment) (s : State) : State :=
  { s with env := { s.env with agenda := s.env.agenda ++ [m] } }

/-- A datagram is delivered to an endpoint's `ch_in`. -/
def arriveAt (buf : Datagram) (s : State) : State :=
  { s with env := { s.env with chIn := s.env.chIn ++ [buf] } }

/-- The sending endpoint's step: what it emits enters the forward channel. -/
def Link.stepSnd (l : Link) : Option Link :=
  match step l.snd with
  | .next t => some { l with
      snd := t
      fwd := l.fwd.sendAll (newlyEmitted l.snd t)
      accepted := l.accepted ++ acceptedNext l.snd }
  | .fault _ => none
  | .refused _ => none

/-- The receiving endpoint's step: what it emits enters the return channel. -/
def Link.stepRcv (l : Link) : Option Link :=
  match step l.rcv with
  | .next t => some { l with
      rcv := t
      ret := l.ret.sendAll (newlyEmitted l.rcv t) }
  | .fault _ => none
  | .refused _ => none

/-- A buffer reaches the endpoint at the far end of a direction. -/
def Link.arrive (d : Dir) (buf : Datagram) (l : Link) : Link :=
  match d with
  | .fwd => { l with rcv := arriveAt buf l.rcv }
  | .ret => { l with snd := arriveAt buf l.snd }

/-- The datagrams in flight in a direction. -/
def Link.inFlight (d : Dir) (l : Link) : List Datagram :=
  match d with
  | .fwd => l.fwd.flight
  | .ret => l.ret.flight

/-- The oldest datagram in flight in a direction leaves. -/
def Link.dropOldest (d : Dir) (l : Link) : Link :=
  match d with
  | .fwd => { l with fwd := { l.fwd with flight := l.fwd.flight.tail } }
  | .ret => { l with ret := { l.ret with flight := l.ret.flight.tail } }

/-- One move at a link; none where an endpoint is stuck or nothing is in flight. The order of the datagrams is kept: 'It
never reorders' (20_memory R72). -/
def Link.move (mv : LinkMove) (l : Link) : Option Link :=
  match mv with
  | .stepSnd => l.stepSnd
  | .stepRcv => l.stepRcv
  | .offerSnd m => some { l with snd := offerMoment m l.snd }
  | .offerRcv m => some { l with rcv := offerMoment m l.rcv }
  | .deliver d =>
    match l.inFlight d with
    | [] => none
    | f :: _ => some (l.arrive d f)
  | .alter d buf =>
    match l.inFlight d with
    | [] => none
    | _ :: _ => some (l.arrive d buf)
  | .drop d =>
    match l.inFlight d with
    | [] => none
    | _ :: _ => some (l.dropOldest d)

/-- Several moves in order. -/
def Link.moves (ms : List LinkMove) (l : Link) : Option Link :=
  match ms with
  | [] => some l
  | mv :: rest =>
    match l.move mv with
    | some l' => Link.moves rest l'
    | none => none

/-- A channel with nothing in flight that loses nothing. -/
def Channel.empty : Channel := { flight := [], policy := [] }

/-- Two endpoints joined by two such channels. -/
def Link.between (snd rcv : State) : Link :=
  { snd := snd, rcv := rcv, fwd := .empty, ret := .empty, accepted := [] }

end Sys2Proof.Machine
end

