-- ==== Sys2Proof/Safety.lean ====
section
/-! DEFINITION. What a sound state of an endpoint is: the invariants the spec says 'hold after reset and are kept by
every rule' (10_state, section 9), with the facts about roles, states and variables that the rules state beside them. The
notions other claims are stated in: what the diagnostic state is, what a run leaves open, how old a timer is. -/

namespace Sys2Proof.Safety

open Sys2Proof.Machine

/-- A configuration `OPEN` can have latched (43_session_control R183, R184, 10_state R24 to R28). -/
structure SesLegal (hw : Config.Params) (c : Ses) : Prop where
  /-- 1 ≤ mss ≤ MSS_MAX (10_state R24). -/
  mss : 1 ≤ c.mss.toNat ∧ c.mss.toNat ≤ hw.mssMax.toNat
  /-- 1 ≤ T ≤ 2^31 − 1 for a sender (10_state R27). -/
  timeout : c.role = .sender → 1 ≤ c.t.toNat ∧ c.t.toNat ≤ 2 ^ 31 - 1
  /-- Stop-and-wait runs with W = 1 and M = 2 (43_session_control R183). -/
  sw : c.mode = .sw → c.w = 1#16 ∧ c.m = 2#17
  /-- Go-Back-N runs with 1 ≤ W ≤ W_MAX and W < M ≤ 65536 (10_state R25, R26). -/
  gbn : c.mode = .gbn → 1 ≤ c.w.toNat ∧ c.w.toNat ≤ hw.wMax.toNat ∧ c.w.toNat < c.m.toNat ∧ c.m.toNat ≤ 65536

/-- The configuration registers are legal for `OPEN` (10_state R24 to R27). -/
structure CfgLegal (hw : Config.Params) (c : CfgRegs) : Prop where
  /-- 1 ≤ CFG_MSS ≤ MSS_MAX (10_state R24). -/
  mss : 1 ≤ c.mss.toNat ∧ c.mss.toNat ≤ hw.mssMax.toNat
  /-- 1 ≤ CFG_TIMEOUT ≤ 2^31 − 1 for a sender (10_state R27). -/
  timeout : c.role = .sender → 1 ≤ c.timeout.toNat ∧ c.timeout.toNat ≤ 2 ^ 31 - 1
  /-- In Go-Back-N, 1 ≤ CFG_W ≤ W_MAX and CFG_W < CFG_SEQMOD ≤ 65536 (10_state R25, R26). -/
  gbn : c.mode = .gbn → 1 ≤ c.w.toNat ∧ c.w.toNat ≤ hw.wMax.toNat ∧ c.w.toNat < c.seqmod.toNat ∧
    c.seqmod.toNat ≤ 65536

/-- The control state belongs to the role and mode that use it (10_state R29). -/
structure RoleOk (k : Block) : Prop where
  /-- READY, AWAITING_ACK and DONE are a sender's. -/
  sender : k.st = .ready ∨ k.st = .awaitingAck ∨ k.st = .done → k.ses.role = .sender
  /-- LISTEN and CLOSED are a receiver's. -/
  receiver : k.st = .listen ∨ k.st = .closed → k.ses.role = .receiver
  /-- AWAITING_ACK is the stop-and-wait sender's only (45_go_back_n R230). -/
  awaiting : k.st = .awaitingAck → k.ses.mode = .sw

/-- An entry of the queue is an outstanding DATA or FIN segment with the frame ENCODE gives it (10_state R33,
20_memory R68). -/
def EntryOk (c : Ses) (e : Entry) : Prop :=
  ∃ (flag : Byte) (p : List Byte), (flag = flagData ∨ flag = flagFin) ∧ encodePre c e.seq flag p = true ∧
    e.frame = frameBytes c.alg e.seq flag p

/-- The stop-and-wait invariant (10_state R46): nothing outstanding in READY, exactly the segment numbered `b` in
AWAITING_ACK. The FIN is outstanding or has not been built. -/
structure SwOk (k : Block) : Prop where
  /-- READY: nothing in flight, no FIN built. -/
  ready : k.st = .ready → k.rtx = [] ∧ k.fin = false
  /-- AWAITING_ACK: one entry, numbered `b`. -/
  awaiting : k.st = .awaitingAck → ∃ e, k.rtx = [e] ∧ e.seq = seqOfBit k.b
  /-- `base` and `next` stay 0 (44_stop_and_wait R200). -/
  unused : k.base = 0#16 ∧ k.nxt = 0#16

/-- The Go-Back-N window invariant (10_state R45), for the registers' ranges of R31 and R32. -/
structure GbnOk (k : Block) : Prop where
  /-- `|rtx| = (next − base) mod M`. -/
  count : k.st = .ready → k.rtx.length = seqDist k.nxt k.base k.ses.m
  /-- `|rtx| ≤ W`. -/
  window : k.st = .ready → k.rtx.length ≤ k.ses.w.toNat
  /-- `rtx[i].seq = (base + i) mod M`. -/
  numbers : k.st = .ready → ∀ (i : Nat) (e : Entry), k.rtx[i]? = some e →
    e.seq.toNat = (k.base.toNat + i) % k.ses.m.toNat
  /-- `base < M` and `next < M`. -/
  ranges : k.st = .ready → k.base.toNat < k.ses.m.toNat ∧ k.nxt.toNat < k.ses.m.toNat
  /-- READY after the FIN was built: it is still outstanding (45_go_back_n R233). -/
  fin : k.st = .ready → k.fin = true → k.rtx ≠ []
  /-- `b` stays 0 (45_go_back_n R230). -/
  unused : k.b = 0#1

/-- What a receiver's variables satisfy, and that the sender's are idle in it (10_state R20, R36, R37). -/
structure RcvOk (k : Block) : Prop where
  /-- `expected < M`. -/
  expected : k.st ≠ .idle → k.expected.toNat < k.ses.m.toNat
  /-- End of stream is signalled on closing, not before. -/
  listening : k.st = .listen → k.eos = false
  /-- CLOSED: end of stream has been signalled. -/
  closed : k.st = .closed → k.eos = true
  /-- The sender's variables are idle (10_state R44). -/
  idle : k.b = 0#1 ∧ k.base = 0#16 ∧ k.nxt = 0#16 ∧ k.fin = false

/-- The invariant of the block. -/
structure BlockInv (hw : Config.Params) (k : Block) : Prop where
  /-- A session has been opened in every state but IDLE. -/
  ses : k.st ≠ .idle → SesLegal hw k.ses
  /-- Role, mode and state agree. -/
  role : RoleOk k
  /-- Only READY and AWAITING_ACK hold outstanding segments (42_timeout_manager R171). -/
  quiet : k.st ≠ .ready → k.st ≠ .awaitingAck → k.rtx = []
  /-- Every entry is an encoded segment of this session. -/
  entries : ∀ e ∈ k.rtx, EntryOk k.ses e
  /-- DONE: the FIN was built (44_stop_and_wait R203, 45_go_back_n R233). -/
  done : k.st = .done → k.fin = true
  /-- A stop-and-wait sender. -/
  sws : k.ses.role = .sender → k.ses.mode = .sw → SwOk k
  /-- A Go-Back-N sender. -/
  gbs : k.ses.role = .sender → k.ses.mode = .gbn → GbnOk k
  /-- A receiver. -/
  rcv : k.ses.role = .receiver → RcvOk k
  /-- The receiver's variables are idle in a sender (10_state R44). -/
  snd : k.ses.role = .sender → k.expected = 0#16 ∧ k.eos = false

/-- The agenda issues no operation to a unit by itself: 'they are internal and appear on no port' (30_encoding R104). -/
def NoIssue (a : List Moment) : Prop := ∀ (f : Format) (bs : List Byte), Moment.issue f bs ∉ a

/-- The invariant of an endpoint driven through its ports only. -/
structure Inv (s : State) : Prop where
  /-- The block's part. -/
  block : BlockInv s.hw s.blk
  /-- The environment uses the ports only. -/
  ports : NoIssue s.env.agenda

/-! ## Notions for claims about the whole machine -/

/-- The block without its diagnostic fields (10_state, section 7): what a model that leaves them out would hold. -/
def eraseDiag (s : State) : State :=
  { s with blk := { s.blk with
      corruptSeen := false
      oooSeen := false
      retxSeen := false
      lastCause := .none
      abortCause := 0#8
      cmdErr := .ok } }

/-- The state without its configuration registers. -/
def eraseCfg (s : State) : State := { s with blk := { s.blk with cfg := resetBlock.cfg } }

/-- An outcome seen through a view of states. -/
def viewOut {α : Type} (view : State → α) : Out → Host.Outcome α Fault Refusal
  | .next t => .next (view t)
  | .fault r => .fault r
  | .refused r => .refused r

/-- The operation is an `OPEN`: the command or one of its three rows. -/
def isOpen (i : Instr) : Bool :=
  match (encode i).1, (encode i).2 with
  | .cmd, w :: _ => decide (w = 0x01#8)
  | .dw, w :: _ => decide (dwEv w = 1)
  | _, _ => false

/-- The operation advances time: TICK or TM_TICK. -/
def isTick (i : Instr) : Bool :=
  match (encode i).1, (encode i).2 with
  | .tm, w :: _ => decide (w = 0#8)
  | .dw, w :: _ => decide (dwEv w = 7)
  | _, _ => false

/-- How many ticks ago the entry's timer was armed, in a session with duration `t`. -/
def age (now t : BitVec 32) (e : Entry) : Nat := (now - (e.deadline - t)).toNat

/-- No entry is older than the one before it in the queue. -/
def AgesFall (k : Block) : Prop := (k.rtx.map (age k.now k.ses.t)).Pairwise (fun a b => b ≤ a)

/-- The deadline order of 10_state R47: for `i < j`, `(rtx[j].deadline − rtx[i].deadline) mod 2^32 < 2^31`. -/
def DeadlineOrder (k : Block) : Prop :=
  (k.rtx.map Entry.deadline).Pairwise (fun di dj => (dj - di).toNat < 2 ^ 31)

/-- The service bound of 70_reset_and_hazards R297: less than 2^31 ticks have passed since any deadline of the queue, so
no timer was armed `T + 2^31` ticks ago or earlier. -/
def ServedInTime (k : Block) : Prop := ∀ e ∈ k.rtx, age k.now k.ses.t e < k.ses.t.toNat + 2 ^ 31

/-- The next moment keeps the place of 43_session_control R181 for commands behind `TIMEOUT`: the environment does not
have a command picked before an enabled `TIMEOUT` (log 4, log 25). Service by `serve` or an empty agenda keeps it. -/
def KeepsPriority (s : State) : Prop := s.env.agenda.head? = some (.pick .command) → timeoutEnabled s = false

/-- The machine `exec` runs for an event has exactly one row: of the rows the dispatch word matches one is enabled, and
it completes as the outcome does (43_session_control R182). -/
def OneRow (s : State) (w : Byte) (ops : List Byte) (o : Out) : Prop :=
  ∃ (i : Instr) (t : State), (dwRows w ops).filter (fun x => enabled x s) = [i] ∧ exec i s = .next t ∧ o = .next t

/-! ## Arithmetic the codec's rules speak of -/

/-- `T`, the plain sum of the 16-bit words of a string, an odd last byte padded (40_integrity_codec R132). -/
def wordSum : List Byte → Nat
  | [] => 0
  | [x] => (be16 x 0#8).toNat
  | x :: y :: rest => (be16 x y).toNat + wordSum rest

/-- One fold of a wide accumulator: `T[15:0] + (T >> 16)` (40_integrity_codec R132). -/
def foldOnce (t : Nat) : Nat := t % 65536 + t / 65536

/-- `n` folds. -/
def foldTimes : Nat → Nat → Nat
  | 0, t => t
  | n + 1, t => foldTimes n (foldOnce t)

/-- A string with bit `j` of byte `i` flipped (40_integrity_codec R131). -/
def flipAt (i j : Nat) (bytes : List Byte) : List Byte := bytes.modify i (fun x => x ^^^ (1#8 <<< j))

/-! ## Notions for claims about a link -/

/-- A move that leaves the two sessions and the ports as the delivery rules assume (20_memory R80, R75): no reset, no
`OPEN` or `ABORT` and no operation issued by itself; datagrams come from the channel only; every altered copy is one
that `DECODE` at its endpoint rejects. -/
def QuietMoment : Moment → Prop
  | .arrive _ => False
  | .command c => c.code = 0x02#8 ∨ c.code = 0x03#8
  | .tick => True
  | .csrRead _ => True
  | .csrWrite _ _ => True
  | .reset => False
  | .serve => True
  | .pick _ => True
  | .issue _ _ => False

/-- A quiet move at link `l`. -/
def QuietMove (l : Link) : LinkMove → Prop
  | .stepSnd => True
  | .stepRcv => True
  | .offerSnd m => QuietMoment m
  | .offerRcv m => QuietMoment m
  | .deliver _ => True
  | .alter .fwd buf => (decodeSeg l.rcv.blk.ses buf).isCorrupt = true
  | .alter .ret buf => (decodeSeg l.snd.blk.ses buf).isCorrupt = true
  | .drop _ => True

/-- Links reached from `l` by quiet moves. -/
inductive QuietReach (l : Link) : Link → Prop
  | start : QuietReach l l
  | move {a b : Link} (mv : LinkMove) (h : QuietReach l a) (q : QuietMove a mv) (e : a.move mv = some b) : QuietReach l b

/-- A session about to begin at a link: a sender and a receiver just opened with equal mode, algorithm, maximum payload
and modulus, nothing offered, nothing in flight (20_memory R80, 70_reset_and_hazards R293, R302). -/
structure Begins (l : Link) : Prop where
  /-- The sender has just been opened. -/
  snd : ∃ k, l.snd.blk = openedBlock k ∧ cfgLegal l.snd.hw k.cfg = true ∧ k.cfg.role = .sender
  /-- The receiver has just been opened. -/
  rcv : ∃ k, l.rcv.blk = openedBlock k ∧ cfgLegal l.rcv.hw k.cfg = true ∧ k.cfg.role = .receiver
  /-- The two sessions match. -/
  same : l.snd.blk.ses.mode = l.rcv.blk.ses.mode ∧ l.snd.blk.ses.alg = l.rcv.blk.ses.alg ∧
    l.snd.blk.ses.mss = l.rcv.blk.ses.mss ∧ l.snd.blk.ses.m = l.rcv.blk.ses.m
  /-- Nothing is offered and nothing has been emitted or delivered. -/
  quiet : l.snd.env = quietEnv ∧ l.rcv.env = quietEnv
  /-- Nothing is in flight. -/
  drained : l.fwd.flight = [] ∧ l.ret.flight = [] ∧ l.accepted = []

end Sys2Proof.Safety
end

