-- ==== Sys2Proof/Certificates/Slice0/Obligations.lean ====
section
/-! DEFINITION. The statements for the provers, in the order of OBLIGATIONS.json: the codec, the framer, the timeout
manager, session control, the four machines, dispatch, the step, encodings, and the invariants of the whole machine. -/

section

open Sys2Proof Sys2Proof.Machine Sys2Proof.Safety

/-! ## Integrity Codec -/

/-- The laws of one's-complement addition (40_integrity_codec R121). -/
def Obligations.OnesComplementLaws : Prop :=
  (∀ a b : Half, (addOc a b).toNat = (a.toNat + b.toNat) % 65536 + (a.toNat + b.toNat) / 65536)
  ∧ (∀ a b : Half, addOc a b = addOc b a)
  ∧ (∀ a b c : Half, addOc (addOc a b) c = addOc a (addOc b c))
  ∧ (∀ a : Half, addOc a 0#16 = a)
  ∧ (∀ a : Half, a ≠ 0#16 → addOc a 0xFFFF#16 = a)
  ∧ addOc 0#16 0xFFFF#16 = 0xFFFF#16
  ∧ (∀ a b : Half, addOc a b = 0#16 ↔ a = 0#16 ∧ b = 0#16)
  ∧ (∀ a b : Half, ¬(a = 0#16 ∧ b = 0#16) →
      (addOc a b).toNat = (a.toNat + b.toNat - 1) % 65535 + 1)

/-- Every string verifies against its own integrity value, under either strategy (40_integrity_codec R129). -/
def Obligations.CodecRoundTrip : Prop :=
  (∀ (alg : Alg) (bytes : List Byte), icVer alg bytes (icGen alg bytes) = true)
  ∧ (∀ bytes : List Byte, addOc (ocsum16 bytes) (0xFFFF#16 - ocsum16 bytes) = 0xFFFF#16)

/-- Which values verify a checksum, by the value of the folded sum, and the example frame accepted with either trailer
(40_integrity_codec R130). -/
def Obligations.ChecksumDoubleZero : Prop :=
  (∀ bytes : List Byte, csumGen bytes = 0xFFFF#16 - ocsum16 bytes)
  ∧ (∀ (bytes : List Byte) (c : Half), 1 ≤ (ocsum16 bytes).toNat → (ocsum16 bytes).toNat ≤ 0xFFFE →
      (csumVerify bytes c = true ↔ c = csumGen bytes))
  ∧ (∀ bytes : List Byte, ocsum16 bytes = 0#16 ↔ ∀ x ∈ bytes, x = 0#8)
  ∧ (∀ (bytes : List Byte) (c : Half), ocsum16 bytes = 0#16 → (csumVerify bytes c = true ↔ c = 0xFFFF#16))
  ∧ (∀ (bytes : List Byte) (c : Half), ocsum16 bytes = 0xFFFF#16 →
      csumGen bytes = 0#16 ∧ (csumVerify bytes c = true ↔ c = 0#16 ∨ c = 0xFFFF#16))
  ∧ (∀ ses : Ses, ses.alg = .csum16 → 1 ≤ ses.m.toNat → 2 ≤ ses.mss.toNat →
      encodeSeg ses 0#16 flagData [0xFF, 0xFD] = [0, 0, 0, 0, 2, 0xFF, 0xFD, 0, 0]
      ∧ decodeSeg ses [0, 0, 0, 0, 2, 0xFF, 0xFD, 0, 0] = .segment 0#16 flagData [0xFF, 0xFD]
      ∧ decodeSeg ses [0, 0, 0, 0, 2, 0xFF, 0xFD, 0xFF, 0xFF] = .segment 0#16 flagData [0xFF, 0xFD]
      ∧ decodeSeg ses [0, 0, 0, 0, 2, 0xFF, 0xFD, 0, 1] = .corrupt .integrity)

/-- Adding the words first and folding afterwards gives the same sum, and 32 bits hold the words of any frame
(40_integrity_codec R132). -/
def Obligations.DeferredFolding : Prop :=
  (∀ bytes : List Byte,
    (ocsum16 bytes).toNat = if wordSum bytes = 0 then 0 else (wordSum bytes - 1) % 0xFFFF + 1)
  ∧ (∀ (bytes : List Byte) (n : Nat), foldTimes n (wordSum bytes) ≤ 0xFFFF →
      foldTimes n (wordSum bytes) = (ocsum16 bytes).toNat)
  ∧ (∀ bytes : List Byte, ∃ n, foldTimes n (wordSum bytes) ≤ 0xFFFF)
  ∧ (∀ bytes : List Byte, bytes.length ≤ 5 + 65535 → wordSum bytes < 2 ^ 32)

/-- The CRC of a string followed by a value is zero exactly for the string's own CRC (40_integrity_codec R133). -/
def Obligations.CrcResidue : Prop :=
  (∀ bytes : List Byte, crcGen (bytes ++ be16Bytes (crcGen bytes)) = 0#16)
  ∧ (∀ (bytes : List Byte) (c : Half), crcGen (bytes ++ be16Bytes c) = 0#16 ↔ c = crcGen bytes)
  ∧ crcGen [0x61, 0x62, 0x63, 0x51, 0x4A] = 0#16

/-- Every error of one bit, in the string or in the value, is detected by either strategy
(40_integrity_codec R131). -/
def Obligations.SingleBitErrors : Prop :=
  ∀ (alg : Alg) (bytes : List Byte) (c : Half), icVer alg bytes c = true →
    (∀ i j : Nat, i < bytes.length → j < 8 → icVer alg (flipAt i j bytes) c = false)
    ∧ (∀ j : Nat, j < 16 → icVer alg bytes (c ^^^ (1#16 <<< j)) = false)

/-- CSUM16, CSUM16V, CRC16, CRC16V, ENCODE and DECODE issued by themselves: each completes with its function's value as
the unit's result and writes nothing of the block (40_integrity_codec R120, R128, R134, 41_segment_framer R140, R147).
Outside its preconditions ENCODE completes too, with some bytes (R142, log 9). That the result is kept in `unitOut` is
the model's own choice, log 11. -/
def Obligations.LeafUnitResults : Prop :=
  (∀ (s : State) (bytes : List Byte),
    exec (.csum16 bytes) s = .next { s with env := { s.env with unitOut := .value (0xFFFF#16 - ocsum16 bytes) } })
  ∧ (∀ (s : State) (bytes : List Byte) (c : Half),
    exec (.csum16v c bytes) s =
      .next { s with env := { s.env with unitOut := .bool (decide (addOc (ocsum16 bytes) c = 0xFFFF#16)) } })
  ∧ (∀ (s : State) (bytes : List Byte),
    exec (.crc16 bytes) s = .next { s with env := { s.env with unitOut := .value (crcGen bytes) } })
  ∧ (∀ (s : State) (bytes : List Byte) (c : Half),
    exec (.crc16v c bytes) s = .next { s with env := { s.env with unitOut := .bool (decide (crcGen bytes = c)) } })
  ∧ (csumGen [] = 0xFFFF#16 ∧ crcGen [] = 0xFFFF#16 ∧ csumVerify [] 0xFFFF#16 = true
    ∧ crcVerify [] 0xFFFF#16 = true ∧ csumVerify [] 0#16 = false)
  ∧ (∀ (s : State) (seq : Half) (flag : Byte) (p : List Byte), encodePre s.blk.ses seq flag p = true →
    exec (.encode seq flag p) s =
      .next { s with env := { s.env with unitOut := .frame (frameBytes s.blk.ses.alg seq flag p) } })
  ∧ (∀ (s : State) (seq : Half) (flag : Byte) (p : List Byte), ∃ f : List Byte,
    exec (.encode seq flag p) s = .next { s with env := { s.env with unitOut := .frame f } })
  ∧ (∀ (s : State) (buf : List Byte) (seq : Half) (flag : Byte) (p : List Byte),
    decodeSeg s.blk.ses buf = .segment seq flag p →
    exec (.decode buf) s = .next { s with env := { s.env with unitOut := .segment seq flag p } })
  ∧ (∀ (s : State) (buf : List Byte) (sub : CorruptSub), decodeSeg s.blk.ses buf = .corrupt sub →
    exec (.decode buf) s = .next { s with env := { s.env with unitOut := .corrupt sub } })
  ∧ (∀ (ses : Ses) (a : Half), a.toNat < ses.m.toNat → ses.alg = .csum16 →
    mkAck ses a = be16Bytes a ++ [1, 0, 0] ++ be16Bytes (~~~(addOc a 0x0100#16)))

/-! ## Segment Framer -/

/-- DECODE undoes ENCODE, and accepts nothing but what ENCODE produces and the one alias of the double zero
(41_segment_framer R146). -/
def Obligations.FramerRoundTrip : Prop :=
  (∀ (ses : Ses) (seq : Half) (flag : Byte) (p : List Byte), encodePre ses seq flag p = true →
    decodeSeg ses (encodeSeg ses seq flag p) = .segment seq flag p)
  ∧ (∀ (ses : Ses) (buf : List Byte) (seq : Half) (flag : Byte) (p : List Byte),
    decodeSeg ses buf = .segment seq flag p →
      encodePre ses seq flag p = true
      ∧ buf.take (buf.length - 2) = (encodeSeg ses seq flag p).take (buf.length - 2)
      ∧ (buf = encodeSeg ses seq flag p
        ∨ (ses.alg = .csum16
          ∧ encodeSeg ses seq flag p = buf.take (buf.length - 2) ++ [0x00, 0x00]
          ∧ buf = buf.take (buf.length - 2) ++ [0xFF, 0xFF])))

/-- The checks of DECODE in their order, by byte offsets, and that a buffer with no legal header is always corrupt
(41_segment_framer R143, 30_encoding R99). -/
def Obligations.DecodeChecksInOrder : Prop :=
  (∀ buf : List Byte, encode (.decode buf) = (.sf, 1 :: buf))
  ∧ (∀ (ses : Ses) (buf : List Byte), buf.length < 7 → decodeSeg ses buf = .corrupt .truncated)
  ∧ (∀ (ses : Ses) (buf : List Byte), 7 ≤ buf.length →
    let body := buf.take (buf.length - 2)
    let c := be16 (buf.getD (buf.length - 2) 0) (buf.getD (buf.length - 1) 0)
    let seq := be16 (buf.getD 0 0) (buf.getD 1 0)
    let flag := buf.getD 2 0
    let len := (be16 (buf.getD 3 0) (buf.getD 4 0)).toNat
    decodeSeg ses buf =
      if icVer ses.alg body c = false then .corrupt .integrity
      else if len ≠ buf.length - 7 then .corrupt .length
      else if 2 < flag.toNat then .corrupt .flag
      else if ses.m.toNat ≤ seq.toNat then .corrupt .seq
      else if ses.mss.toNat < len then .corrupt .length
      else if flag ≠ flagData ∧ len ≠ 0 then .corrupt .length
      else .segment seq flag (body.drop 5))
  ∧ (∀ (ses : Ses) (buf : List Byte), illegalHeader buf = true → ∃ sub, decodeSeg ses buf = .corrupt sub)

/-! ## Timeout Manager -/

/-- TM_TICK, which is the whole handling of TICK, adds one to `now` modulo 2^32 in every state and writes nothing else
(42_timeout_manager R161). -/
def Obligations.TickAdvancesTime : Prop :=
  encode .tmTick = (.tm, [0])
  ∧ (∀ (r m : BitVec 1), encode (.evTick r m) = (.dw, [r ++ m ++ 7#3 ++ 0#3]))
  ∧ (∀ (s : State) (r m : BitVec 1), ∃ n : BitVec 32,
    n.toNat = (s.blk.now.toNat + 1) % 2 ^ 32
    ∧ exec .tmTick s = .next { s with blk := { s.blk with now := n } }
    ∧ exec (.evTick r m) s = .next { s with blk := { s.blk with now := n } })

/-- TM_ARM sets a deadline of `now + T`; the timer then reads unexpired for exactly `T` ticks and expired for the next
2^31 (42_timeout_manager R162, R163). Where the armed entry that is not yet in the queue is shown is the model's own
choice, log 11. -/
def Obligations.ArmedTimerRuns : Prop :=
  (∀ x : ArmTarget, ∃ ops, encode (.tmArm x) = (.tm, 1 :: ops))
  ∧ (∀ (s : State) (i : Half) (e : Entry), s.blk.rtx[i.toNat]? = some e →
    exec (.tmArm (.queued i)) s = .next { s with blk := { s.blk with
      rtx := s.blk.rtx.set i.toNat { e with deadline := s.blk.now + s.blk.ses.t } } })
  ∧ (∀ (s : State) (seq : Half) (frame : List Byte),
    exec (.tmArm (.fresh seq frame)) s = .next { s with env := { s.env with
      unitOut := .entry { seq := seq, frame := frame, deadline := s.blk.now + s.blk.ses.t } } })
  ∧ (∀ now d : BitVec 32, expired now d = true ↔ (now - d).toNat < 2 ^ 31)
  ∧ (∀ (now t : BitVec 32) (k : Nat), 1 ≤ t.toNat → t.toNat ≤ 2 ^ 31 - 1 → k < 2 ^ 32 →
    (expired (now + BitVec.ofNat 32 k) (now + t) = true ↔ t.toNat ≤ k ∧ k < t.toNat + 2 ^ 31))

/-- TM_CANCEL, TM_CANCEL_ALL and TM_EXPIRED (42_timeout_manager R164, R165, R166). TM_CANCEL(k) outside 1 ≤ k ≤ |rtx|,
where R164 states no result, completes too: some of the oldest entries leave, how many is free, and the rest stand as
they are (the model's choice, log 10). That TM_EXPIRED's answer is kept in `unitOut` is the model's own choice, log 11. -/
def Obligations.CancelAndExpiry : Prop :=
  (∀ k : Half, encode (.tmCancel k) = (.tm, 2 :: be16Bytes k))
  ∧ encode .tmCancelAll = (.tm, [3]) ∧ encode .tmExpired = (.tm, [4])
  ∧ (∀ (s : State) (k : Half), 1 ≤ k.toNat → k.toNat ≤ s.blk.rtx.length →
    exec (.tmCancel k) s = .next { s with blk := { s.blk with rtx := s.blk.rtx.drop k.toNat } })
  ∧ (∀ (s : State) (k : Half), k.toNat = 0 ∨ s.blk.rtx.length < k.toNat → ∃ n : Nat,
    exec (.tmCancel k) s = .next { s with
      blk := { s.blk with rtx := s.blk.rtx.drop n }
      env := { s.env with freeDraws := s.env.freeDraws + 1 } })
  ∧ (∀ s : State, exec .tmCancelAll s = .next { s with blk := { s.blk with rtx := [] } })
  ∧ (∀ (s : State) (now : BitVec 32),
    tmExpired { s with blk := { s.blk with rtx := [], now := now } } = false)
  ∧ (∀ s : State, s.blk.rtx = [] →
    exec .tmExpired s = .next { s with env := { s.env with unitOut := .bool false } })
  ∧ (∀ (s : State) (e : Entry) (rest : List Entry), s.blk.rtx = e :: rest →
    exec .tmExpired s = .next { s with env := { s.env with unitOut := .bool (expired s.blk.now e.deadline) } })

/-- Where an operation stops: TM_ARM of a queue index that names no entry, and every transition row whose condition does
not hold (43_session_control R191; the stops are the model's choice, log 7, log 24). Nothing else of the table stops in a
state that meets the block invariant. -/
def Obligations.WhereOperationsStop : Prop :=
  (∀ (s : State) (i : Half), s.blk.rtx.length ≤ i.toNat → exec (.tmArm (.queued i)) s = .fault .noSuchEntry)
  ∧ (∀ (s : State) (i : Instr), enabled i s = false → exec i s = .fault .conditionFalse)
  ∧ (∀ (s : State) (i : Instr), BlockInv s.hw s.blk → enabled i s = true →
    (∀ j : Half, i = .tmArm (.queued j) → j.toNat < s.blk.rtx.length) → ∃ t, exec i s = .next t)

/-- After a retransmission the TIMEOUT event is off for at least `T` ticks, so one expiry causes one emission
(42_timeout_manager R168). -/
def Obligations.RetransmissionRearms : Prop :=
  ∀ (s t : State) (i : Instr), (i = .swsTimeout ∨ i = .gbsTimeout) → exec i s = .next t →
    1 ≤ s.blk.ses.t.toNat → s.blk.ses.t.toNat ≤ 2 ^ 31 - 1 →
    timeoutEnabled s = true
    ∧ ∀ k : Nat, k < s.blk.ses.t.toNat →
      timeoutEnabled { t with blk := { t.blk with now := t.blk.now + BitVec.ofNat 32 k } } = false

/-! ## Session control -/

/-- OPEN, accepted: the session is latched, every variable starts afresh, `now` and the configuration are kept
(43_session_control R183). -/
def Obligations.OpenAccepted : Prop :=
  ∀ (s : State) (r m : BitVec 1),
    (s.blk.st = .idle ∨ s.blk.st = .done ∨ s.blk.st = .closed ∨ s.blk.st = .aborted) →
    CfgLegal s.hw s.blk.cfg →
    let t : State := { s with blk := {
      cfg := s.blk.cfg
      ses := {
        role := s.blk.cfg.role
        mode := s.blk.cfg.mode
        alg := s.blk.cfg.alg
        mss := s.blk.cfg.mss
        w := if s.blk.cfg.mode = .sw then 1#16 else s.blk.cfg.w
        m := if s.blk.cfg.mode = .sw then 2#17 else s.blk.cfg.seqmod
        t := s.blk.cfg.timeout }
      st := if s.blk.cfg.role = .sender then .ready else .listen
      b := 0, base := 0, nxt := 0, rtx := [], fin := false, expected := 0, eos := false
      now := s.blk.now
      corruptSeen := false, oooSeen := false, retxSeen := false
      lastCause := .none, abortCause := 0, cmdErr := .ok } }
    encode .cmdOpen = (.cmd, [0x01]) ∧ encode (.evOpen r m) = (.dw, [r ++ m ++ 1#3 ++ 0#3])
    ∧ exec (.evOpen r m) s = .next t ∧ exec .cmdOpen s = .next t

/-- OPEN, refused: an illegal configuration, or a session is active (43_session_control R184, R185). -/
def Obligations.OpenRefused : Prop :=
  (∀ (s : State) (r m : BitVec 1),
    (s.blk.st = .idle ∨ s.blk.st = .done ∨ s.blk.st = .closed ∨ s.blk.st = .aborted) →
    (s.blk.cfg.mss = 0
      ∨ s.hw.mssMax.toNat < s.blk.cfg.mss.toNat
      ∨ (s.blk.cfg.role = .sender ∧ (s.blk.cfg.timeout = 0 ∨ 2 ^ 31 - 1 < s.blk.cfg.timeout.toNat))
      ∨ (s.blk.cfg.mode = .gbn ∧ (s.blk.cfg.w = 0 ∨ s.hw.wMax.toNat < s.blk.cfg.w.toNat
        ∨ s.blk.cfg.seqmod.toNat ≤ s.blk.cfg.w.toNat ∨ 65536 < s.blk.cfg.seqmod.toNat))) →
    exec (.evOpenBadcfg r m) s = .next { s with blk := { s.blk with cmdErr := .badCfg } }
    ∧ exec .cmdOpen s = .next { s with blk := { s.blk with cmdErr := .badCfg } })
  ∧ (∀ (s : State) (r m : BitVec 1), (s.blk.st = .ready ∨ s.blk.st = .awaitingAck ∨ s.blk.st = .listen) →
    exec (.evOpenBadstate r m) s = .next { s with blk := { s.blk with cmdErr := .badState } }
    ∧ exec .cmdOpen s = .next { s with blk := { s.blk with cmdErr := .badState } })

/-- ABORT, accepted: the queue is emptied and the cause recorded; nothing is emitted and nothing else changes. From then
on TIMEOUT is off, buffers are dropped and data commands refused (43_session_control R186). -/
def Obligations.AbortTearsDown : Prop :=
  ∀ (s : State) (r m : BitVec 1) (cause : Byte), s.blk.st ≠ .idle → s.blk.st ≠ .aborted →
    let t : State := { s with blk := { s.blk with
      rtx := [], st := .aborted, abortCause := cause, lastCause := .sessionAborted, cmdErr := .ok } }
    encode (.cmdAbort cause) = (.cmd, [0x04, cause])
    ∧ encode (.evAbort r m cause) = (.dw, [r ++ m ++ 4#3 ++ 0#3, cause])
    ∧ causeCode .sessionAborted = 0x40
    ∧ exec (.evAbort r m cause) s = .next t ∧ exec (.cmdAbort cause) s = .next t
    ∧ timeoutEnabled t = false
    ∧ (∀ buf : List Byte, exec (decodeFrameWord buf) t = .next t)
    ∧ (∀ p : List Byte, exec (.cmdTxPush p) t = .next { t with blk := { t.blk with cmdErr := .badState } })
    ∧ exec .cmdTxClose t = .next { t with blk := { t.blk with cmdErr := .badState } }

/-- ABORT with no session, and a reserved command code: refused with no other change. A reserved command is ranked with
the commands other than ABORT: taken only where no buffer is offered and TIMEOUT is not enabled (43_session_control R187,
R188). -/
def Obligations.RefusedAbortAndReserved : Prop :=
  (∀ (s : State) (r m : BitVec 1) (cause : Byte), (s.blk.st = .idle ∨ s.blk.st = .aborted) →
    exec (.evAbortBadstate r m cause) s = .next { s with blk := { s.blk with cmdErr := .badState } }
    ∧ exec (.cmdAbort cause) s = .next { s with blk := { s.blk with cmdErr := .badState } })
  ∧ (∀ (code : Byte) (ops : List Byte), code = 0x00 ∨ 0x05 ≤ code.toNat →
    decode .cmd (code :: ops) = .ok (.cmdReserved code))
  ∧ (∀ (s : State) (code : Byte),
    exec (.cmdReserved code) s = .next { s with blk := { s.blk with cmdErr := .badCmd } })
  ∧ (∀ (s : State) (c : HostCmd) (rest : List HostCmd), s.env.cmds = c :: rest → c.code = 0x00 ∨ 0x05 ≤ c.code.toNat →
    decode .cmd (cmdWord c) = .ok (.cmdReserved c.code)
    ∧ (∀ buf tl, s.env.chIn = buf :: tl → arbitrate s = .frame buf tl)
    ∧ (s.env.chIn = [] → timeoutEnabled s = true → arbitrate s = .timeout)
    ∧ (s.env.chIn = [] → timeoutEnabled s = false → arbitrate s = .command c rest))

/-- The checks of `tx_admit` in their order, and the refusal each gives; the command consumes nothing else
(43_session_control R189). -/
def Obligations.AdmissionOrder : Prop :=
  ∀ (s : State) (kind : TxKind) (p : List Byte) (r m : BitVec 1) (e : CmdResult),
    (kind = .close → p = []) →
    e = (if s.blk.ses.role ≠ .sender ∨ ¬(s.blk.st = .ready ∨ s.blk.st = .awaitingAck) then .badState
      else if s.blk.fin = true then .badState
      else if kind = .push ∧ p.length > s.blk.ses.mss.toNat then .badLen
      else if s.blk.rtx.length ≥ s.blk.ses.w.toNat then .busy
      else .ok) →
    txAdmit kind p s = e
    ∧ (e ≠ .ok →
      exec (.txRefuse r m kind p) s = .next { s with blk := { s.blk with cmdErr := e } }
      ∧ exec (match kind with
          | .push => .cmdTxPush p
          | .close => .cmdTxClose) s = .next { s with blk := { s.blk with cmdErr := e } })

/-- `tx_ready` is 1 exactly when a legal TX_PUSH, or a TX_CLOSE, would be accepted (10_state R41). -/
def Obligations.TxReadyIffAdmitted : Prop :=
  ∀ s : State, BlockInv s.hw s.blk →
    (txReady s = true ↔ s.blk.st = .ready ∧ s.blk.fin = false ∧ s.blk.rtx.length < s.blk.ses.w.toNat)
    ∧ (txReady s = true ↔ txAdmit .close [] s = .ok)
    ∧ (∀ p : List Byte, p.length ≤ s.blk.ses.mss.toNat → (txReady s = true ↔ txAdmit .push p s = .ok))

/-- A buffer at an inactive endpoint, or at a stop-and-wait sender in READY, is dropped: the state is unchanged
(43_session_control R190, 44_stop_and_wait R206). The class bits of the undecoded buffer's word are free, log 15. -/
def Obligations.BuffersDropped : Prop :=
  (∀ (s : State) (r m : BitVec 1) (c : BitVec 3) (buf : List Byte),
    (s.blk.st = .idle ∨ s.blk.st = .done ∨ s.blk.st = .aborted) →
    encode (.rxInactive r m c buf) = (.dw, (r ++ m ++ 5#3 ++ c) :: buf)
    ∧ exec (.rxInactive r m c buf) s = .next s ∧ exec (decodeFrameWord buf) s = .next s)
  ∧ (∀ (s : State) (c : BitVec 3) (buf : List Byte),
    s.blk.ses.role = .sender → s.blk.ses.mode = .sw → s.blk.st = .ready →
    encode (.swsRxReady c buf) = (.dw, (5#5 ++ c) :: buf)
    ∧ exec (.swsRxReady c buf) s = .next s ∧ exec (decodeFrameWord buf) s = .next s)

/-! ## Stop-and-wait sender -/

/-- SWS.PUSH and SWS.CLOSE: the segment numbered `b` is encoded, emitted, stored with an armed timer, and awaited
(44_stop_and_wait R201, R202). -/
def Obligations.SwsSends : Prop :=
  (∀ (s : State) (p : List Byte), s.blk.ses.role = .sender → s.blk.ses.mode = .sw → s.blk.ses.w = 1 →
    s.blk.st = .ready → s.blk.fin = false → s.blk.rtx = [] → p.length ≤ s.blk.ses.mss.toNat →
    let f := encodeSeg s.blk.ses (s.blk.b.zeroExtend 16) flagData p
    let t : State := { s with
      blk := { s.blk with
        rtx := [{ seq := s.blk.b.zeroExtend 16, frame := f, deadline := s.blk.now + s.blk.ses.t }]
        st := .awaitingAck
        cmdErr := .ok }
      env := { s.env with out := s.env.out ++ [.emit f] } }
    encode (.swsPush p) = (.dw, 0x10 :: p) ∧ exec (.swsPush p) s = .next t ∧ exec (.cmdTxPush p) s = .next t)
  ∧ (∀ s : State, s.blk.ses.role = .sender → s.blk.ses.mode = .sw → s.blk.ses.w = 1 →
    s.blk.st = .ready → s.blk.fin = false → s.blk.rtx = [] →
    let f := encodeSeg s.blk.ses (s.blk.b.zeroExtend 16) flagFin []
    let t : State := { s with
      blk := { s.blk with
        rtx := [{ seq := s.blk.b.zeroExtend 16, frame := f, deadline := s.blk.now + s.blk.ses.t }]
        fin := true
        st := .awaitingAck
        cmdErr := .ok }
      env := { s.env with out := s.env.out ++ [.emit f] } }
    encode .swsClose = (.dw, [0x18]) ∧ exec .swsClose s = .next t ∧ exec .cmdTxClose s = .next t)

/-- SWS.ACK_OK: the awaited acknowledgment empties the queue, flips `b`, and ends the session if it was the FIN's
(44_stop_and_wait R203). -/
def Obligations.SwsAckAccepted : Prop :=
  ∀ (s : State) (buf : List Byte) (e : Entry), s.blk.ses.role = .sender → s.blk.ses.mode = .sw →
    s.blk.st = .awaitingAck → s.blk.rtx = [e] →
    decodeSeg s.blk.ses buf = .segment (s.blk.b.zeroExtend 16) flagAck [] →
    let t : State := { s with blk := { s.blk with
      rtx := [], b := 1 - s.blk.b, st := if s.blk.fin = true then .done else .ready } }
    encode (.swsAckOk buf) = (.dw, 0x29 :: buf)
    ∧ exec (.swsAckOk buf) s = .next t ∧ exec (decodeFrameWord buf) s = .next t

/-- SWS.ACK_BAD: anything but the awaited acknowledgment is recorded and the stored frame is emitted again at once, its
timer re-armed (44_stop_and_wait R204). -/
def Obligations.SwsAckBadResends : Prop :=
  ∀ (s : State) (buf : List Byte) (e : Entry), s.blk.ses.role = .sender → s.blk.ses.mode = .sw →
    s.blk.st = .awaitingAck → s.blk.rtx = [e] →
    let resent (cause : Cause) (corrupt : Bool) : State := { s with
      blk := { s.blk with
        lastCause := cause
        corruptSeen := s.blk.corruptSeen || corrupt
        rtx := [{ e with deadline := s.blk.now + s.blk.ses.t }]
        retxSeen := true }
      env := { s.env with out := s.env.out ++ [.emit e.frame] } }
    (∀ sub, decodeSeg s.blk.ses buf = .corrupt sub →
      encode (.swsAckBad 7 buf) = (.dw, 0x2F :: buf)
      ∧ exec (.swsAckBad 7 buf) s = .next (resent (.corruptFrame sub) true)
      ∧ exec (decodeFrameWord buf) s = .next (resent (.corruptFrame sub) true))
    ∧ (∀ seq p, decodeSeg s.blk.ses buf = .segment seq flagAck p → seq ≠ s.blk.b.zeroExtend 16 →
      encode (.swsAckBad 1 buf) = (.dw, 0x29 :: buf)
      ∧ exec (.swsAckBad 1 buf) s = .next (resent .staleAck false)
      ∧ exec (decodeFrameWord buf) s = .next (resent .staleAck false))
    ∧ (∀ seq flag p c, decodeSeg s.blk.ses buf = .segment seq flag p →
      (flag = flagData ∧ c = 0#3) ∨ (flag = flagFin ∧ c = 2#3) →
      encode (.swsAckBad c buf) = (.dw, (5#5 ++ c) :: buf)
      ∧ exec (.swsAckBad c buf) s = .next (resent .unexpected false)
      ∧ exec (decodeFrameWord buf) s = .next (resent .unexpected false))

/-- SWS.TIMEOUT: the stored frame is emitted again and its timer re-armed (44_stop_and_wait R205). -/
def Obligations.SwsTimeoutResends : Prop :=
  ∀ (s : State) (e : Entry), s.blk.ses.role = .sender → s.blk.ses.mode = .sw → s.blk.st = .awaitingAck →
    s.blk.rtx = [e] → expired s.blk.now e.deadline = true →
    encode .swsTimeout = (.dw, [0x30]) ∧ timeoutEnabled s = true
    ∧ exec .swsTimeout s = .next { s with
      blk := { s.blk with
        lastCause := .timeout
        retxSeen := true
        rtx := [{ e with deadline := s.blk.now + s.blk.ses.t }] }
      env := { s.env with out := s.env.out ++ [.emit e.frame] } }

/-! ## Stop-and-wait receiver -/

/-- SWR.DATA_OK: the payload is delivered, `expected` flips, and the segment is acknowledged (44_stop_and_wait R211). -/
def Obligations.SwrDelivers : Prop :=
  ∀ (s : State) (buf p : List Byte), s.blk.ses.role = .receiver → s.blk.ses.mode = .sw → s.blk.st = .listen →
    decodeSeg s.blk.ses buf = .segment s.blk.expected flagData p →
    let t : State := { s with
      blk := { s.blk with expected := 1 - s.blk.expected }
      env := { s.env with out := s.env.out ++ [.deliver p, .emit (mkAck s.blk.ses s.blk.expected)] } }
    encode (.swrDataOk buf) = (.dw, 0xA8 :: buf)
    ∧ exec (.swrDataOk buf) s = .next t ∧ exec (decodeFrameWord buf) s = .next t

/-- SWR.DATA_DUP, SWR.FIN_DUP and SWR.CLOSED_REACK: Duplicate is raised and the last acknowledgment emitted again
(44_stop_and_wait R212, R214, R215). -/
def Obligations.SwrReacknowledges : Prop :=
  ∀ (s : State) (buf p : List Byte) (seq : Half) (flag : Byte),
    s.blk.ses.role = .receiver → s.blk.ses.mode = .sw → decodeSeg s.blk.ses buf = .segment seq flag p →
    let t : State := { s with
      blk := { s.blk with lastCause := .duplicate, oooSeen := true }
      env := { s.env with out := s.env.out ++ [.emit (mkAck s.blk.ses (1 - s.blk.expected))] } }
    (s.blk.st = .listen → flag = flagData → seq ≠ s.blk.expected →
      encode (.swrDataDup buf) = (.dw, 0xA8 :: buf)
      ∧ exec (.swrDataDup buf) s = .next t ∧ exec (decodeFrameWord buf) s = .next t)
    ∧ (seq ≠ s.blk.expected → s.blk.ses.m = 2 → s.blk.expected.toNat < 2 → 1 - s.blk.expected = seq)
    ∧ (s.blk.st = .listen → flag = flagFin → seq ≠ s.blk.expected →
      encode (.swrFinDup buf) = (.dw, 0xAA :: buf)
      ∧ exec (.swrFinDup buf) s = .next t ∧ exec (decodeFrameWord buf) s = .next t)
    ∧ (∀ c : BitVec 1, s.blk.st = .closed → flag = (if c = 0 then flagData else flagFin) →
      encode (.swrClosedReack c buf) = (.dw, (if c = 0 then 0xA8 else 0xAA) :: buf)
      ∧ exec (.swrClosedReack c buf) s = .next t ∧ exec (decodeFrameWord buf) s = .next t)

/-- SWR.FIN_OK: end of stream is signalled, `expected` flips, the FIN is acknowledged, and the receiver closes
(44_stop_and_wait R213). -/
def Obligations.SwrCloses : Prop :=
  ∀ (s : State) (buf : List Byte), s.blk.ses.role = .receiver → s.blk.ses.mode = .sw → s.blk.st = .listen →
    decodeSeg s.blk.ses buf = .segment s.blk.expected flagFin [] →
    let t : State := { s with
      blk := { s.blk with eos := true, expected := 1 - s.blk.expected, st := .closed }
      env := { s.env with out := s.env.out ++ [.signalEos, .emit (mkAck s.blk.ses s.blk.expected)] } }
    encode (.swrFinOk buf) = (.dw, 0xAA :: buf)
    ∧ exec (.swrFinOk buf) s = .next t ∧ exec (decodeFrameWord buf) s = .next t

/-- SWR.CORRUPT and SWR.ACK_IGN: recorded and discarded, nothing emitted (44_stop_and_wait R216, R217). -/
def Obligations.SwrDiscards : Prop :=
  ∀ (s : State) (buf : List Byte), s.blk.ses.role = .receiver → s.blk.ses.mode = .sw →
    (s.blk.st = .listen ∨ s.blk.st = .closed) →
    (∀ sub, decodeSeg s.blk.ses buf = .corrupt sub →
      encode (.swrCorrupt buf) = (.dw, 0xAF :: buf)
      ∧ exec (.swrCorrupt buf) s =
        .next { s with blk := { s.blk with lastCause := .corruptFrame sub, corruptSeen := true } }
      ∧ exec (decodeFrameWord buf) s =
        .next { s with blk := { s.blk with lastCause := .corruptFrame sub, corruptSeen := true } })
    ∧ (∀ seq p, decodeSeg s.blk.ses buf = .segment seq flagAck p →
      encode (.swrAckIgn buf) = (.dw, 0xA9 :: buf)
      ∧ exec (.swrAckIgn buf) s = .next { s with blk := { s.blk with lastCause := .unexpected } }
      ∧ exec (decodeFrameWord buf) s = .next { s with blk := { s.blk with lastCause := .unexpected } })

/-! ## Go-Back-N sender -/

/-- GBS.PUSH and GBS.CLOSE: the segment numbered `next` is encoded, emitted and stored with an armed timer, and `next`
advances modulo `M`; `st` stays READY (45_go_back_n R231, R232). -/
def Obligations.GbsSends : Prop :=
  (∀ (s : State) (p : List Byte), s.blk.ses.role = .sender → s.blk.ses.mode = .gbn → s.blk.st = .ready →
    s.blk.fin = false → s.blk.rtx.length < s.blk.ses.w.toNat → p.length ≤ s.blk.ses.mss.toNat →
    let f := encodeSeg s.blk.ses s.blk.nxt flagData p
    let t : State := { s with
      blk := { s.blk with
        rtx := s.blk.rtx ++ [{ seq := s.blk.nxt, frame := f, deadline := s.blk.now + s.blk.ses.t }]
        nxt := BitVec.ofNat 16 ((s.blk.nxt.toNat + 1) % s.blk.ses.m.toNat)
        cmdErr := .ok }
      env := { s.env with out := s.env.out ++ [.emit f] } }
    encode (.gbsPush p) = (.dw, 0x50 :: p) ∧ exec (.gbsPush p) s = .next t ∧ exec (.cmdTxPush p) s = .next t)
  ∧ (∀ s : State, s.blk.ses.role = .sender → s.blk.ses.mode = .gbn → s.blk.st = .ready →
    s.blk.fin = false → s.blk.rtx.length < s.blk.ses.w.toNat →
    let f := encodeSeg s.blk.ses s.blk.nxt flagFin []
    let t : State := { s with
      blk := { s.blk with
        rtx := s.blk.rtx ++ [{ seq := s.blk.nxt, frame := f, deadline := s.blk.now + s.blk.ses.t }]
        nxt := BitVec.ofNat 16 ((s.blk.nxt.toNat + 1) % s.blk.ses.m.toNat)
        fin := true
        cmdErr := .ok }
      env := { s.env with out := s.env.out ++ [.emit f] } }
    encode .gbsClose = (.dw, [0x58]) ∧ exec .gbsClose s = .next t ∧ exec .cmdTxClose s = .next t)

/-- GBS.ACK: an acknowledgment inside the outstanding range retires the `d + 1` oldest entries, moves `base` past them,
and ends the session if the FIN was among them (45_go_back_n R233). -/
def Obligations.GbsAckRetires : Prop :=
  ∀ (s : State) (buf p : List Byte) (a : Half) (d : Nat), s.blk.ses.role = .sender → s.blk.ses.mode = .gbn →
    s.blk.st = .ready → decodeSeg s.blk.ses buf = .segment a flagAck p →
    (d : Int) = ((a.toNat : Int) - (s.blk.base.toNat : Int)) % (s.blk.ses.m.toNat : Int) →
    d < s.blk.rtx.length →
    let t : State := { s with blk := { s.blk with
      rtx := s.blk.rtx.drop (d + 1)
      base := BitVec.ofNat 16 ((a.toNat + 1) % s.blk.ses.m.toNat)
      st := if s.blk.fin = true ∧ s.blk.rtx.length = d + 1 then .done else .ready } }
    encode (.gbsAck buf) = (.dw, 0x69 :: buf)
    ∧ exec (.gbsAck buf) s = .next t ∧ exec (decodeFrameWord buf) s = .next t

/-- GBS.ACK_STALE and GBS.DISCARD: recorded and ignored, nothing emitted (45_go_back_n R234, R235). -/
def Obligations.GbsIgnores : Prop :=
  ∀ (s : State) (buf : List Byte), s.blk.ses.role = .sender → s.blk.ses.mode = .gbn → s.blk.st = .ready →
    (∀ a p, decodeSeg s.blk.ses buf = .segment a flagAck p →
      (s.blk.rtx.length : Int) ≤ ((a.toNat : Int) - (s.blk.base.toNat : Int)) % (s.blk.ses.m.toNat : Int) →
      encode (.gbsAckStale buf) = (.dw, 0x69 :: buf)
      ∧ exec (.gbsAckStale buf) s = .next { s with blk := { s.blk with lastCause := .staleAck } }
      ∧ exec (decodeFrameWord buf) s = .next { s with blk := { s.blk with lastCause := .staleAck } })
    ∧ (∀ sub, decodeSeg s.blk.ses buf = .corrupt sub →
      encode (.gbsDiscard 7 buf) = (.dw, 0x6F :: buf)
      ∧ exec (.gbsDiscard 7 buf) s =
        .next { s with blk := { s.blk with lastCause := .corruptFrame sub, corruptSeen := true } }
      ∧ exec (decodeFrameWord buf) s =
        .next { s with blk := { s.blk with lastCause := .corruptFrame sub, corruptSeen := true } })
    ∧ (∀ seq flag p c, decodeSeg s.blk.ses buf = .segment seq flag p →
      (flag = flagData ∧ c = 0#3) ∨ (flag = flagFin ∧ c = 2#3) →
      encode (.gbsDiscard c buf) = (.dw, (13#5 ++ c) :: buf)
      ∧ exec (.gbsDiscard c buf) s = .next { s with blk := { s.blk with lastCause := .unexpected } }
      ∧ exec (decodeFrameWord buf) s = .next { s with blk := { s.blk with lastCause := .unexpected } })

/-- GBS.TIMEOUT: every outstanding frame is emitted again in order and every timer re-armed with one deadline
(45_go_back_n R236). -/
def Obligations.GbsTimeoutResends : Prop :=
  ∀ (s : State) (e : Entry) (rest : List Entry), s.blk.ses.role = .sender → s.blk.ses.mode = .gbn →
    s.blk.st = .ready → s.blk.rtx = e :: rest → expired s.blk.now e.deadline = true →
    encode .gbsTimeout = (.dw, [0x70]) ∧ timeoutEnabled s = true
    ∧ exec .gbsTimeout s = .next { s with
      blk := { s.blk with
        lastCause := .timeout
        retxSeen := true
        rtx := s.blk.rtx.map (fun x => { x with deadline := s.blk.now + s.blk.ses.t }) }
      env := { s.env with out := s.env.out ++ s.blk.rtx.map (fun x => .emit x.frame) } }

/-! ## Go-Back-N receiver -/

/-- GBR.DATA_OK: the payload is delivered, `expected` advances modulo `M`, and a cumulative acknowledgment of the segment
is emitted (45_go_back_n R241). -/
def Obligations.GbrDelivers : Prop :=
  ∀ (s : State) (buf p : List Byte), s.blk.ses.role = .receiver → s.blk.ses.mode = .gbn → s.blk.st = .listen →
    decodeSeg s.blk.ses buf = .segment s.blk.expected flagData p →
    let t : State := { s with
      blk := { s.blk with expected := BitVec.ofNat 16 ((s.blk.expected.toNat + 1) % s.blk.ses.m.toNat) }
      env := { s.env with out := s.env.out ++ [.deliver p, .emit (mkAck s.blk.ses s.blk.expected)] } }
    encode (.gbrDataOk buf) = (.dw, 0xE8 :: buf)
    ∧ exec (.gbrDataOk buf) s = .next t ∧ exec (decodeFrameWord buf) s = .next t

/-- GBR.DATA_OOO, GBR.FIN_OOO and GBR.CLOSED_REACK: OutOfOrder is raised and the last cumulative acknowledgment, of
`(expected − 1) mod M`, emitted again (45_go_back_n R242, R244, R245). -/
def Obligations.GbrReacknowledges : Prop :=
  ∀ (s : State) (buf p : List Byte) (seq a : Half) (flag : Byte),
    s.blk.ses.role = .receiver → s.blk.ses.mode = .gbn → decodeSeg s.blk.ses buf = .segment seq flag p →
    (a.toNat : Int) = ((s.blk.expected.toNat : Int) - 1) % (s.blk.ses.m.toNat : Int) →
    let t : State := { s with
      blk := { s.blk with lastCause := .outOfOrder, oooSeen := true }
      env := { s.env with out := s.env.out ++ [.emit (mkAck s.blk.ses a)] } }
    (s.blk.st = .listen → flag = flagData → seq ≠ s.blk.expected →
      encode (.gbrDataOoo buf) = (.dw, 0xE8 :: buf)
      ∧ exec (.gbrDataOoo buf) s = .next t ∧ exec (decodeFrameWord buf) s = .next t)
    ∧ (s.blk.st = .listen → flag = flagFin → seq ≠ s.blk.expected →
      encode (.gbrFinOoo buf) = (.dw, 0xEA :: buf)
      ∧ exec (.gbrFinOoo buf) s = .next t ∧ exec (decodeFrameWord buf) s = .next t)
    ∧ (∀ c : BitVec 1, s.blk.st = .closed → flag = (if c = 0 then flagData else flagFin) →
      encode (.gbrClosedReack c buf) = (.dw, (if c = 0 then 0xE8 else 0xEA) :: buf)
      ∧ exec (.gbrClosedReack c buf) s = .next t ∧ exec (decodeFrameWord buf) s = .next t)

/-- GBR.FIN_OK: end of stream is signalled, `expected` advances, the FIN is acknowledged, and the receiver closes
(45_go_back_n R243). -/
def Obligations.GbrCloses : Prop :=
  ∀ (s : State) (buf : List Byte), s.blk.ses.role = .receiver → s.blk.ses.mode = .gbn → s.blk.st = .listen →
    decodeSeg s.blk.ses buf = .segment s.blk.expected flagFin [] →
    let t : State := { s with
      blk := { s.blk with
        eos := true
        expected := BitVec.ofNat 16 ((s.blk.expected.toNat + 1) % s.blk.ses.m.toNat)
        st := .closed }
      env := { s.env with out := s.env.out ++ [.signalEos, .emit (mkAck s.blk.ses s.blk.expected)] } }
    encode (.gbrFinOk buf) = (.dw, 0xEA :: buf)
    ∧ exec (.gbrFinOk buf) s = .next t ∧ exec (decodeFrameWord buf) s = .next t

/-- GBR.CORRUPT and GBR.ACK_IGN: recorded and discarded, nothing emitted (45_go_back_n R246, R247). -/
def Obligations.GbrDiscards : Prop :=
  ∀ (s : State) (buf : List Byte), s.blk.ses.role = .receiver → s.blk.ses.mode = .gbn →
    (s.blk.st = .listen ∨ s.blk.st = .closed) →
    (∀ sub, decodeSeg s.blk.ses buf = .corrupt sub →
      encode (.gbrCorrupt buf) = (.dw, 0xEF :: buf)
      ∧ exec (.gbrCorrupt buf) s =
        .next { s with blk := { s.blk with lastCause := .corruptFrame sub, corruptSeen := true } }
      ∧ exec (decodeFrameWord buf) s =
        .next { s with blk := { s.blk with lastCause := .corruptFrame sub, corruptSeen := true } })
    ∧ (∀ seq p, decodeSeg s.blk.ses buf = .segment seq flagAck p →
      encode (.gbrAckIgn buf) = (.dw, 0xE9 :: buf)
      ∧ exec (.gbrAckIgn buf) s = .next { s with blk := { s.blk with lastCause := .unexpected } }
      ∧ exec (decodeFrameWord buf) s = .next { s with blk := { s.blk with lastCause := .unexpected } })

/-! ## Frames on the wire -/

/-- What the frame rows do, from the bytes of the frame: DATA and FIN at a listening receiver that expects them, ACK at a
sender that awaits it, a buffer with no legal header at a receiver (30_encoding R96 to R99). -/
def Obligations.FrameRowsAct : Prop :=
  (∀ (s : State) (seq c : Half) (p : List Byte), SesLegal s.hw s.blk.ses → s.blk.ses.role = .receiver →
    s.blk.st = .listen → seq = s.blk.expected → encodePre s.blk.ses seq flagData p = true →
    icVer s.blk.ses.alg (frameBody seq flagData p) c = true →
    exec (.frameData seq (BitVec.ofNat 16 p.length) (p ++ be16Bytes c)) s = .next { s with
      blk := { s.blk with expected := BitVec.ofNat 16 ((seq.toNat + 1) % s.blk.ses.m.toNat) }
      env := { s.env with out := s.env.out ++
        [.deliver p, .emit (frameBytes s.blk.ses.alg seq flagAck [])] } })
  ∧ (∀ (s : State) (seq c : Half), SesLegal s.hw s.blk.ses → s.blk.ses.role = .receiver →
    s.blk.st = .listen → seq = s.blk.expected → seq.toNat < s.blk.ses.m.toNat →
    icVer s.blk.ses.alg (frameBody seq flagFin []) c = true →
    exec (.frameFin seq (be16Bytes c)) s = .next { s with
      blk := { s.blk with
        eos := true
        expected := BitVec.ofNat 16 ((seq.toNat + 1) % s.blk.ses.m.toNat)
        st := .closed }
      env := { s.env with out := s.env.out ++
        [.signalEos, .emit (frameBytes s.blk.ses.alg seq flagAck [])] } })
  ∧ (∀ (s : State) (c : Half) (e : Entry), SesLegal s.hw s.blk.ses → s.blk.ses.role = .sender →
    s.blk.ses.mode = .sw → s.blk.st = .awaitingAck → s.blk.rtx = [e] →
    icVer s.blk.ses.alg (frameBody (s.blk.b.zeroExtend 16) flagAck []) c = true →
    exec (.frameAck (s.blk.b.zeroExtend 16) (be16Bytes c)) s = .next { s with blk := { s.blk with
      rtx := [], b := 1 - s.blk.b, st := if s.blk.fin = true then .done else .ready } })
  ∧ (∀ (s : State) (a c : Half) (d : Nat), SesLegal s.hw s.blk.ses → s.blk.ses.role = .sender →
    s.blk.ses.mode = .gbn → s.blk.st = .ready → a.toNat < s.blk.ses.m.toNat →
    (d : Int) = ((a.toNat : Int) - (s.blk.base.toNat : Int)) % (s.blk.ses.m.toNat : Int) →
    d < s.blk.rtx.length → icVer s.blk.ses.alg (frameBody a flagAck []) c = true →
    exec (.frameAck a (be16Bytes c)) s = .next { s with blk := { s.blk with
      rtx := s.blk.rtx.drop (d + 1)
      base := BitVec.ofNat 16 ((a.toNat + 1) % s.blk.ses.m.toNat)
      st := if s.blk.fin = true ∧ s.blk.rtx.length = d + 1 then .done else .ready } })
  ∧ (∀ (s : State) (buf : List Byte), s.blk.ses.role = .receiver → (s.blk.st = .listen ∨ s.blk.st = .closed) →
    illegalHeader buf = true → ∃ sub, decodeSeg s.blk.ses buf = .corrupt sub
      ∧ exec (.frameIllegal buf) s =
        .next { s with blk := { s.blk with lastCause := .corruptFrame sub, corruptSeen := true } })

/-! ## Dispatch and the step -/

/-- Every event falls in exactly one row of the dispatch table, the row completes, and the command or the frame at its
port does what the row does; TIMEOUT has no row where it is not enabled (43_session_control R182). -/
def Obligations.DispatchIsTotal : Prop :=
  ∀ s : State, BlockInv s.hw s.blk →
    (∀ (buf : List Byte) (c : BitVec 3),
      (if s.blk.st.isInactive = true ∨ (s.blk.ses.role = .sender ∧ s.blk.ses.mode = .sw ∧ s.blk.st = .ready)
        then legalClass c = true else c = classOf (decodeSeg s.blk.ses buf)) →
      OneRow s (dwByte (roleNow s) (modeNow s) 5 c) buf (exec (decodeFrameWord buf) s))
    ∧ OneRow s (dwByte (roleNow s) (modeNow s) 1 0) [] (exec .cmdOpen s)
    ∧ (∀ p : List Byte, OneRow s (dwByte (roleNow s) (modeNow s) 2 0) p (exec (.cmdTxPush p) s))
    ∧ OneRow s (dwByte (roleNow s) (modeNow s) 3 0) [] (exec .cmdTxClose s)
    ∧ (∀ cause : Byte, OneRow s (dwByte (roleNow s) (modeNow s) 4 0) [cause] (exec (.cmdAbort cause) s))
    ∧ OneRow s (dwByte (roleNow s) (modeNow s) 7 0) [] (exec .tmTick s)
    ∧ (if timeoutEnabled s = true then
        OneRow s (dwByte (roleNow s) (modeNow s) 6 0) []
          (exec (match s.blk.ses.mode with
            | .sw => .swsTimeout
            | .gbn => .gbsTimeout) s)
      else (dwRows (dwByte (roleNow s) (modeNow s) 6 0) []).filter (fun i => enabled i s) = [])

/-- A step runs the operation its word decodes to, in the state the taking leaves; a happening that is no event is
complete, a word that decodes to nothing is refused. An operation issued by itself leaves the state as it was (log 11,
log 12). -/
def Obligations.StepRunsDecoded : Prop :=
  (∀ (s t : State) (f : Format) (bs : List Byte) (i : Instr), fetch s = .word f bs t → decodeIn t f bs = .ok i →
    step s = exec i t)
  ∧ (∀ s t : State, fetch s = .still t → step s = .next t)
  ∧ (∀ (s t : State) (f : Format) (bs : List Byte) (e : DecodeError), fetch s = .word f bs t →
    decodeIn t f bs = .error e → step s = .refused (.undecodable e))
  ∧ (∀ (s : State) (f : Format) (bs : List Byte), fetch (issueFirst f bs s) = .word f bs s)

/-- Arbitration: an ABORT command, then an inbound buffer, then TIMEOUT, then any other command; with nothing offered
the endpoint does nothing, and a tick is not arbitrated (43_session_control R181). That the environment can also name the
source to serve, so that every serialisation is a run, is the model's choice, log 4. -/
def Obligations.ArbitrationOrder : Prop :=
  let commandOp : HostCmd → Instr := fun c =>
    if c.code = 0x01 then .cmdOpen
    else if c.code = 0x02 then .cmdTxPush c.payload
    else if c.code = 0x03 then .cmdTxClose
    else if c.code = 0x04 then .cmdAbort c.cause
    else .cmdReserved c.code
  let timeoutOp : State → Instr := fun s => match s.blk.ses.mode with
    | .sw => .swsTimeout
    | .gbn => .gbsTimeout
  ∀ s : State, BlockInv s.hw s.blk →
    (∀ u : State, (s.env.agenda = [] ∧ u = s)
        ∨ (∃ rest, s.env.agenda = .serve :: rest ∧ u = { s with env := { s.env with agenda := rest } }) →
      (∀ c tl, s.env.cmds = c :: tl → c.code = 0x04 →
        step s = exec (.cmdAbort c.cause) { u with env := { u.env with cmds := tl } })
      ∧ (∀ buf tl, (∀ c rest, s.env.cmds = c :: rest → c.code ≠ 0x04) → s.env.chIn = buf :: tl →
        step s = exec (decodeFrameWord buf) { u with env := { u.env with chIn := tl } })
      ∧ ((∀ c rest, s.env.cmds = c :: rest → c.code ≠ 0x04) → s.env.chIn = [] → timeoutEnabled s = true →
        step s = exec (timeoutOp s) u)
      ∧ (∀ c tl, s.env.chIn = [] → timeoutEnabled s = false → s.env.cmds = c :: tl → c.code ≠ 0x04 →
        step s = exec (commandOp c) { u with env := { u.env with cmds := tl } })
      ∧ (s.env.chIn = [] → timeoutEnabled s = false → s.env.cmds = [] → step s = .next u))
    ∧ (∀ rest, s.env.agenda = .tick :: rest → step s = .next { s with
        blk := { s.blk with now := s.blk.now + 1 }
        env := { s.env with agenda := rest } })
    ∧ (∀ src rest, s.env.agenda = .pick src :: rest →
      let u : State := { s with env := { s.env with agenda := rest } }
      (∀ c tl, src = .command → s.env.cmds = c :: tl →
        step s = exec (commandOp c) { u with env := { u.env with cmds := tl } })
      ∧ (∀ buf tl, src = .frame → s.env.chIn = buf :: tl →
        step s = exec (decodeFrameWord buf) { u with env := { u.env with chIn := tl } })
      ∧ (src = .timeout → timeoutEnabled s = true → step s = exec (timeoutOp s) u)
      ∧ ((src = .command → s.env.cmds = []) → (src = .frame → s.env.chIn = []) →
        (src = .timeout → timeoutEnabled s = false) → step s = .next u))

/-- What the environment's other moments do: datagrams and commands queue in order; register reads return the named state
with no side effect; register writes keep the low bits and touch the configuration only (10_state R42, R43). -/
def Obligations.PortsAndRegisters : Prop :=
  (∀ (s : State) (buf : Datagram) (rest : List Moment), s.env.agenda = .arrive buf :: rest →
    step s = .next { s with env := { s.env with agenda := rest, chIn := s.env.chIn ++ [buf] } })
  ∧ (∀ (s : State) (c : HostCmd) (rest : List Moment), s.env.agenda = .command c :: rest →
    step s = .next { s with env := { s.env with agenda := rest, cmds := s.env.cmds ++ [c] } })
  ∧ (∀ (s : State) (n : Nat) (rest : List Moment), s.env.agenda = .csrRead n :: rest →
    step s = .next { s with env := { s.env with agenda := rest, csrData := csrValue n s } })
  ∧ (∀ s : State, (csrValue 0 s).toNat = (roleBit s.blk.cfg.role).toNat
    ∧ (csrValue 1 s).toNat = (modeBit s.blk.cfg.mode).toNat ∧ (csrValue 2 s).toNat = (algBit s.blk.cfg.alg).toNat
    ∧ (csrValue 3 s).toNat = s.blk.cfg.mss.toNat ∧ (csrValue 4 s).toNat = s.blk.cfg.w.toNat
    ∧ (csrValue 5 s).toNat = s.blk.cfg.seqmod.toNat ∧ csrValue 6 s = s.blk.cfg.timeout
    ∧ csrValue 8 s = s.blk.now ∧ (csrValue 9 s).toNat = s.blk.b.toNat ∧ (csrValue 10 s).toNat = s.blk.base.toNat
    ∧ (csrValue 11 s).toNat = s.blk.nxt.toNat ∧ (csrValue 12 s).toNat = s.blk.rtx.length % 65536
    ∧ (csrValue 13 s).toNat = s.blk.expected.toNat ∧ (∀ n : Nat, 13 < n → csrValue n s = 0))
  ∧ (∀ s : State, let v := csrValue 7 s
    v.extractLsb' 0 3 = ctlCode s.blk.st ∧ v.getLsbD 3 = txReady s ∧ v.getLsbD 4 = s.blk.fin
    ∧ v.getLsbD 5 = s.blk.eos ∧ v.extractLsb' 6 2 = 0 ∧ v.getLsbD 8 = s.blk.corruptSeen
    ∧ v.getLsbD 9 = s.blk.oooSeen ∧ v.getLsbD 10 = s.blk.retxSeen ∧ v.getLsbD 11 = false
    ∧ v.extractLsb' 12 3 = cmdResultCode s.blk.cmdErr ∧ v.getLsbD 15 = false
    ∧ v.extractLsb' 16 8 = s.blk.abortCause ∧ v.extractLsb' 24 8 = causeCode s.blk.lastCause)
  ∧ (∀ (s : State) (n : Nat) (v : BitVec 32) (rest : List Moment), s.env.agenda = .csrWrite n v :: rest →
    ∃ c : CfgRegs, step s = .next { s with blk := { s.blk with cfg := c }, env := { s.env with agenda := rest } }
      ∧ (n = 0 → c = { s.blk.cfg with role := if v.toNat % 2 = 0 then .sender else .receiver })
      ∧ (n = 1 → c = { s.blk.cfg with mode := if v.toNat % 2 = 0 then .sw else .gbn })
      ∧ (n = 2 → c = { s.blk.cfg with alg := if v.toNat % 2 = 0 then .csum16 else .crc16 })
      ∧ (n = 3 → c = { s.blk.cfg with mss := BitVec.ofNat 16 v.toNat })
      ∧ (n = 4 → c = { s.blk.cfg with w := BitVec.ofNat 16 v.toNat })
      ∧ (n = 5 → c = { s.blk.cfg with seqmod := BitVec.ofNat 17 v.toNat })
      ∧ (n = 6 → c = { s.blk.cfg with timeout := v })
      ∧ (7 ≤ n → c = s.blk.cfg))

/-- Configuration coherence: no operation but an OPEN that is examined sees the configuration registers, and none writes
them (20_memory R79). -/
def Obligations.ConfigurationCoherence : Prop :=
  (∀ (s1 s2 : State) (i : Instr), eraseCfg s1 = eraseCfg s2 → (isOpen i = false ∨ s1.blk.st.isActive = true) →
    viewOut eraseCfg (exec i s1) = viewOut eraseCfg (exec i s2))
  ∧ (∀ (s t : State) (i : Instr), exec i s = .next t → t.blk.cfg = s.blk.cfg)
  ∧ (∀ (s t : State) (i : Instr), exec i s = .next t → t.blk.ses ≠ s.blk.ses →
    isOpen i = true ∧ s.blk.st.isActive = false ∧ CfgLegal s.hw s.blk.cfg)

/-- Reset is total: every piece of the block's state takes its reset value, whatever it was; nothing is emitted or
delivered (70_reset_and_hazards R290, 10_state R51). -/
def Obligations.ResetIsTotal : Prop :=
  let zero : Block := {
    cfg := { role := .sender, mode := .sw, alg := .csum16, mss := 0, w := 0, seqmod := 0, timeout := 0 }
    ses := { role := .sender, mode := .sw, alg := .csum16, mss := 0, w := 0, m := 0, t := 0 }
    st := .idle, b := 0, base := 0, nxt := 0, rtx := [], fin := false, expected := 0, eos := false, now := 0
    corruptSeen := false, oooSeen := false, retxSeen := false, lastCause := .none, abortCause := 0, cmdErr := .ok }
  State.reset.blk = zero
  ∧ (∀ n : Nat, csrValue n State.reset = 0)
  ∧ ∀ (s : State) (rest : List Moment), s.env.agenda = .reset :: rest →
    ∃ e : Env, step s = .next { hw := s.hw, blk := zero, env := e } ∧ e.out = s.env.out

/-- `raise` writes the cause and the sticky flag of its kind and nothing else, and the diagnostic state influences
nothing: two states that differ only in it do the same (60_exceptions R262). -/
def Obligations.DiagnosticsInfluenceNothing : Prop :=
  (∀ (c : Cause) (s : State), raise c s = { s with blk := { s.blk with
    lastCause := c
    corruptSeen := s.blk.corruptSeen || (match c with
      | .corruptFrame _ => true
      | _ => false)
    oooSeen := s.blk.oooSeen || decide (c = .outOfOrder ∨ c = .duplicate)
    retxSeen := s.blk.retxSeen || decide (c = .timeout) } })
  ∧ (∀ (s1 s2 : State) (i : Instr), eraseDiag s1 = eraseDiag s2 →
    viewOut eraseDiag (exec i s1) = viewOut eraseDiag (exec i s2))

/-! ## Encodings -/

/-- Words written out from the tables of 30_encoding decode to the operations they stand for. -/
def Obligations.KnownWordsDecode : Prop :=
  decode .frame [0x00, 0x00, 0x00, 0x00, 0x03, 0x61, 0x62, 0x63, 0x9A, 0x3B]
    = .ok (.frameData 0 3 [0x61, 0x62, 0x63, 0x9A, 0x3B])
  ∧ decode .frame [0x00, 0x01, 0x01, 0x00, 0x00, 0xFE, 0xFE] = .ok (.frameAck 1 [0xFE, 0xFE])
  ∧ decode .frame [0x00, 0x02, 0x02, 0x00, 0x00, 0xFD, 0xFD] = .ok (.frameFin 2 [0xFD, 0xFD])
  ∧ decode .frame [0x00, 0x00, 0x03, 0x00, 0x00, 0xFC, 0xFF]
    = .ok (.frameIllegal [0x00, 0x00, 0x03, 0x00, 0x00, 0xFC, 0xFF])
  ∧ decode .cmd [0x02, 0x61] = .ok (.cmdTxPush [0x61])
  ∧ decode .cmd [0x04, 0x01] = .ok (.cmdAbort 1)
  ∧ decode .ic [0x03, 0x51, 0x4A, 0x61, 0x62, 0x63] = .ok (.crc16v 0x514A [0x61, 0x62, 0x63])
  ∧ decode .sf [0x01, 0x00] = .ok (.decode [0x00])
  ∧ decode .tm [0x02, 0x00, 0x02] = .ok (.tmCancel 2)
  ∧ decode .tm [0x05] = .error .reservedSelect
  ∧ decode .dw [0x30] = .ok .swsTimeout
  ∧ decode .dw [0x50, 0x41] = .ok (.gbsPush [0x41])
  ∧ decode .dw [0xEF] = .ok (.gbrCorrupt [])

/-- An operation's word, in a state that meets its condition, decodes to it: every operation of the table, every operand
(30_encoding R103). -/
def Obligations.EncodeThenDecode : Prop :=
  ∀ (i : Instr) (s : State), i.wellFormed = true → enabled i s = true →
    decodeIn s (encode i).1 (encode i).2 = .ok i

/-- A word that decodes stands for a well-formed operation whose encoding it is; only the ignored operand of a reserved
command is dropped. Every buffer is exactly one of the four frame rows (30_encoding R99, R101, R103, R104). -/
def Obligations.DecodeThenEncode : Prop :=
  (∀ (f : Format) (bs : List Byte) (i : Instr), decode f bs = .ok i →
    i.wellFormed = true ∧ (encode i = (f, bs) ∨ ∃ code ops, f = .cmd ∧ bs = code :: ops ∧ i = .cmdReserved code))
  ∧ (∀ (w : Byte) (ops : List Byte) (i : Instr), i ∈ dwRows w ops →
    i.wellFormed = true ∧ encode i = (.dw, w :: ops))
  ∧ (∀ buf : List Byte, decode .frame buf = .ok (decodeFrameWord buf))

/-! ## Invariants and rules of the whole machine -/

/-- The invariant holds after reset, whatever the parameters (10_state, section 9). -/
def Obligations.ResetMeetsInvariant : Prop :=
  ∀ p : Config.Params, Inv (resetWith p)

/-- Every step keeps the invariant: the window of R45, the single flight of R46, legal sessions, states that agree with
their role, queues that are empty where nothing is outstanding (10_state R45, R46). -/
def Obligations.StepKeepsInvariant : Prop :=
  ∀ s t : State, Inv s → step s = .next t → Inv t

/-- Where the invariant holds the machine always goes on: no fault and no refusal (60_exceptions R275,
43_session_control R182). -/
def Obligations.StepCompletes : Prop :=
  ∀ s : State, Inv s → ∃ t, step s = .next t

/-- What is outstanding, and when TIMEOUT can be on: the window bound, the single flight, and empty queues in every state
that is not READY or AWAITING_ACK and at every receiver (20_memory R82, R83, 42_timeout_manager R171,
43_session_control R191, 70_reset_and_hazards R296). -/
def Obligations.OutstandingBounds : Prop :=
  ∀ s : State, BlockInv s.hw s.blk →
    (s.blk.ses.role = .sender → s.blk.ses.mode = .gbn → s.blk.rtx.length ≤ s.blk.ses.w.toNat)
    ∧ (s.blk.ses.role = .sender → s.blk.ses.mode = .sw → s.blk.rtx.length ≤ 1)
    ∧ (s.blk.st ≠ .ready → s.blk.st ≠ .awaitingAck → s.blk.rtx = [] ∧ timeoutEnabled s = false)
    ∧ (s.blk.ses.role = .receiver → s.blk.rtx = [] ∧ timeoutEnabled s = false)
    ∧ (timeoutEnabled s = true → 0 < s.blk.rtx.length)

/-- Who writes each variable: an operation that changes one is among those the rule of that variable names
(10_state R28, R30 to R32, R35 to R38, R40). -/
def Obligations.VariablesAndWriters : Prop :=
  ∀ (s t : State) (i : Instr), (encode i).1 ≠ .frame → (encode i).1 ≠ .cmd → exec i s = .next t →
    t.hw = s.hw
    ∧ (t.blk.now ≠ s.blk.now → isTick i = true)
    ∧ (t.blk.ses ≠ s.blk.ses → isOpen i = true)
    ∧ (t.blk.b ≠ s.blk.b → isOpen i = true ∨ ∃ buf, i = .swsAckOk buf)
    ∧ (t.blk.base ≠ s.blk.base → isOpen i = true ∨ ∃ buf, i = .gbsAck buf)
    ∧ (t.blk.nxt ≠ s.blk.nxt → isOpen i = true ∨ (∃ p, i = .gbsPush p) ∨ i = .gbsClose)
    ∧ (t.blk.fin ≠ s.blk.fin → isOpen i = true ∨ i = .swsClose ∨ i = .gbsClose)
    ∧ (t.blk.expected ≠ s.blk.expected → isOpen i = true
      ∨ ∃ buf, i = .swrDataOk buf ∨ i = .swrFinOk buf ∨ i = .gbrDataOk buf ∨ i = .gbrFinOk buf)
    ∧ (t.blk.eos ≠ s.blk.eos → isOpen i = true ∨ ∃ buf, i = .swrFinOk buf ∨ i = .gbrFinOk buf)
    ∧ (t.blk.abortCause ≠ s.blk.abortCause → isOpen i = true ∨ ∃ r m cause, i = .evAbort r m cause)
    ∧ (sinkBytes t ≠ sinkBytes s → ∃ buf, i = .swrDataOk buf ∨ i = .gbrDataOk buf)

/-- A stored frame is never modified, and the output only grows: after any operation the numbers and frames of the queue
are those it had, without some of the oldest, except that a PUSH or a CLOSE may add one entry at the tail, whose frame
is then all that the event emits (20_memory R68, R76). -/
def Obligations.StoredFramesStand : Prop :=
  ∀ (s t : State) (i : Instr), exec i s = .next t → ∃ es : List Effect, t.env.out = s.env.out ++ es
    ∧ ((∃ n : Nat, t.blk.rtx.map (fun x => (x.seq, x.frame)) = (s.blk.rtx.map (fun x => (x.seq, x.frame))).drop n)
      ∨ ((i = .cmdTxClose ∨ i = .swsClose ∨ i = .gbsClose
          ∨ ∃ p, i = .cmdTxPush p ∨ i = .swsPush p ∨ i = .gbsPush p)
        ∧ ∃ x : Entry, t.blk.rtx = s.blk.rtx ++ [x] ∧ es = [.emit x.frame]))

/-- Every datagram an endpoint emits is a frame that DECODE of its own session accepts, of 7 to 7 + mss bytes; a sender
emits DATA and FIN, a receiver ACK (20_memory R67, 30_encoding R96, R97, R98). -/
def Obligations.EmissionsAreFrames : Prop :=
  ∀ (s t : State) (i : Instr), BlockInv s.hw s.blk → exec i s = .next t →
    ∃ es : List Effect, t.env.out = s.env.out ++ es
      ∧ ∀ f : Datagram, Effect.emit f ∈ es → ∃ seq flag p, decodeSeg s.blk.ses f = .segment seq flag p
        ∧ f.length = 7 + p.length ∧ p.length ≤ s.blk.ses.mss.toNat
        ∧ (s.blk.ses.role = .sender → flag = flagData ∨ flag = flagFin)
        ∧ (s.blk.ses.role = .receiver → flag = flagAck)

/-- After an abort nothing is emitted or delivered and the state stays ABORTED, until OPEN (43_session_control R186,
60_exceptions R269). -/
def Obligations.AbortedStaysSilent : Prop :=
  ∀ (s t : State) (i : Instr), s.blk.st = .aborted → s.blk.rtx = [] → isOpen i = false → exec i s = .next t →
    t.blk.st = .aborted ∧ t.blk.rtx = [] ∧ t.env.out = s.env.out ∧ timeoutEnabled t = false
    ∧ t.blk.abortCause = s.blk.abortCause

/-- No partial trust: two buffers that DECODE rejects with the same sub-cause are handled alike, whatever their bytes; with
different sub-causes only the diagnostic state can differ (41_segment_framer R145, R144). -/
def Obligations.NoPartialTrust : Prop :=
  ∀ (s : State) (buf1 buf2 : List Byte) (sub1 sub2 : CorruptSub),
    decodeSeg s.blk.ses buf1 = .corrupt sub1 → decodeSeg s.blk.ses buf2 = .corrupt sub2 →
    viewOut eraseDiag (exec (decodeFrameWord buf1) s) = viewOut eraseDiag (exec (decodeFrameWord buf2) s)
    ∧ (sub1 = sub2 → exec (decodeFrameWord buf1) s = exec (decodeFrameWord buf2) s)

/-- Deadline order (10_state R47). After reset, and kept by every step within the service bound of 70_reset_and_hazards
R297 that serves in the order of 43_session_control R181: R47's wrap-safe formula over the deadlines, and with it that no
timer is older than the one before it. Within the bound an expired timer of the set means that the oldest has expired.
In every order of service each operation of the block keeps the order of ages; the formula follows from it for ages below
2^31, a premise narrower than R297's and the MODEL'S CHOICE for orders that serve a command before an enabled TIMEOUT,
under which the formula can fail (DESIGN CHOICE, log 25). TM_ARM of a queue entry by itself, which no rule performs, is
left out (log 11). -/
def Obligations.DeadlinesInOrder : Prop :=
  (∀ p : Config.Params, AgesFall (resetWith p).blk ∧ DeadlineOrder (resetWith p).blk)
  ∧ (∀ s t : State, Inv s → AgesFall s.blk → DeadlineOrder s.blk → ServedInTime s.blk → KeepsPriority s →
    step s = .next t → AgesFall t.blk ∧ DeadlineOrder t.blk)
  ∧ (∀ (s t : State) (i : Instr), (∀ x, i ≠ .tmArm x) → BlockInv s.hw s.blk → AgesFall s.blk →
    (∀ e ∈ s.blk.rtx, age s.blk.now s.blk.ses.t e < 2 ^ 32 - 1) → exec i s = .next t → AgesFall t.blk)
  ∧ (∀ k : Block, AgesFall k → (∀ e ∈ k.rtx, age k.now k.ses.t e < 2 ^ 31) → DeadlineOrder k)
  ∧ (∀ s : State, AgesFall s.blk → 1 ≤ s.blk.ses.t.toNat → s.blk.ses.t.toNat ≤ 2 ^ 31 - 1 → ServedInTime s.blk →
    (∃ e ∈ s.blk.rtx, expired s.blk.now e.deadline = true) → tmExpired s = true)

/-! ## Two endpoints and the channel -/

/-- Exactly-once delivery in stop-and-wait: over channels that lose, duplicate and detectably alter but do not reorder,
the sink's stream is always a prefix of what was accepted, and all of it once the sender is DONE (20_memory R80). -/
def Obligations.StopAndWaitDelivers : Prop :=
  ∀ l l' : Link, Begins l → l.snd.blk.ses.mode = .sw → QuietReach l l' →
    sinkBytes l'.rcv <+: l'.accepted.flatten
    ∧ (l'.snd.blk.st = .done → sinkBytes l'.rcv = l'.accepted.flatten ∧ eosMark l'.rcv = true)

/-- Exactly-once delivery in Go-Back-N, under the same premises (20_memory R80, 45_go_back_n R248). -/
def Obligations.GoBackNDelivers : Prop :=
  ∀ l l' : Link, Begins l → l.snd.blk.ses.mode = .gbn → QuietReach l l' →
    sinkBytes l'.rcv <+: l'.accepted.flatten
    ∧ (l'.snd.blk.st = .done → sinkBytes l'.rcv = l'.accepted.flatten ∧ eosMark l'.rcv = true)

end
end

