-- ==== Sys2Proof/Laws/State.lean ====
section
/-! SUPPORT. One lemma per field per update operation, so that no later proof unfolds a record update. -/

namespace Sys2Proof.Machine


/-! `setCmdErr` -/

@[simp] theorem setCmdErr_hw (r : CmdResult) (s : State) : (setCmdErr r s).hw = s.hw := rfl
@[simp] theorem setCmdErr_env (r : CmdResult) (s : State) : (setCmdErr r s).env = s.env := rfl
@[simp] theorem setCmdErr_cfg (r : CmdResult) (s : State) : (setCmdErr r s).blk.cfg = s.blk.cfg := rfl
@[simp] theorem setCmdErr_ses (r : CmdResult) (s : State) : (setCmdErr r s).blk.ses = s.blk.ses := rfl
@[simp] theorem setCmdErr_st (r : CmdResult) (s : State) : (setCmdErr r s).blk.st = s.blk.st := rfl
@[simp] theorem setCmdErr_b (r : CmdResult) (s : State) : (setCmdErr r s).blk.b = s.blk.b := rfl
@[simp] theorem setCmdErr_base (r : CmdResult) (s : State) : (setCmdErr r s).blk.base = s.blk.base := rfl
@[simp] theorem setCmdErr_nxt (r : CmdResult) (s : State) : (setCmdErr r s).blk.nxt = s.blk.nxt := rfl
@[simp] theorem setCmdErr_rtx (r : CmdResult) (s : State) : (setCmdErr r s).blk.rtx = s.blk.rtx := rfl
@[simp] theorem setCmdErr_fin (r : CmdResult) (s : State) : (setCmdErr r s).blk.fin = s.blk.fin := rfl
@[simp] theorem setCmdErr_expected (r : CmdResult) (s : State) : (setCmdErr r s).blk.expected = s.blk.expected := rfl
@[simp] theorem setCmdErr_eos (r : CmdResult) (s : State) : (setCmdErr r s).blk.eos = s.blk.eos := rfl
@[simp] theorem setCmdErr_now (r : CmdResult) (s : State) : (setCmdErr r s).blk.now = s.blk.now := rfl
@[simp] theorem setCmdErr_corruptSeen (r : CmdResult) (s : State) : (setCmdErr r s).blk.corruptSeen = s.blk.corruptSeen := rfl
@[simp] theorem setCmdErr_oooSeen (r : CmdResult) (s : State) : (setCmdErr r s).blk.oooSeen = s.blk.oooSeen := rfl
@[simp] theorem setCmdErr_retxSeen (r : CmdResult) (s : State) : (setCmdErr r s).blk.retxSeen = s.blk.retxSeen := rfl
@[simp] theorem setCmdErr_lastCause (r : CmdResult) (s : State) : (setCmdErr r s).blk.lastCause = s.blk.lastCause := rfl
@[simp] theorem setCmdErr_abortCause (r : CmdResult) (s : State) : (setCmdErr r s).blk.abortCause = s.blk.abortCause := rfl
@[simp] theorem setCmdErr_cmdErr (r : CmdResult) (s : State) : (setCmdErr r s).blk.cmdErr = r := rfl

/-! `setSt` -/

@[simp] theorem setSt_hw (c : Ctl) (s : State) : (setSt c s).hw = s.hw := rfl
@[simp] theorem setSt_env (c : Ctl) (s : State) : (setSt c s).env = s.env := rfl
@[simp] theorem setSt_cfg (c : Ctl) (s : State) : (setSt c s).blk.cfg = s.blk.cfg := rfl
@[simp] theorem setSt_ses (c : Ctl) (s : State) : (setSt c s).blk.ses = s.blk.ses := rfl
@[simp] theorem setSt_st (c : Ctl) (s : State) : (setSt c s).blk.st = c := rfl
@[simp] theorem setSt_b (c : Ctl) (s : State) : (setSt c s).blk.b = s.blk.b := rfl
@[simp] theorem setSt_base (c : Ctl) (s : State) : (setSt c s).blk.base = s.blk.base := rfl
@[simp] theorem setSt_nxt (c : Ctl) (s : State) : (setSt c s).blk.nxt = s.blk.nxt := rfl
@[simp] theorem setSt_rtx (c : Ctl) (s : State) : (setSt c s).blk.rtx = s.blk.rtx := rfl
@[simp] theorem setSt_fin (c : Ctl) (s : State) : (setSt c s).blk.fin = s.blk.fin := rfl
@[simp] theorem setSt_expected (c : Ctl) (s : State) : (setSt c s).blk.expected = s.blk.expected := rfl
@[simp] theorem setSt_eos (c : Ctl) (s : State) : (setSt c s).blk.eos = s.blk.eos := rfl
@[simp] theorem setSt_now (c : Ctl) (s : State) : (setSt c s).blk.now = s.blk.now := rfl
@[simp] theorem setSt_corruptSeen (c : Ctl) (s : State) : (setSt c s).blk.corruptSeen = s.blk.corruptSeen := rfl
@[simp] theorem setSt_oooSeen (c : Ctl) (s : State) : (setSt c s).blk.oooSeen = s.blk.oooSeen := rfl
@[simp] theorem setSt_retxSeen (c : Ctl) (s : State) : (setSt c s).blk.retxSeen = s.blk.retxSeen := rfl
@[simp] theorem setSt_lastCause (c : Ctl) (s : State) : (setSt c s).blk.lastCause = s.blk.lastCause := rfl
@[simp] theorem setSt_abortCause (c : Ctl) (s : State) : (setSt c s).blk.abortCause = s.blk.abortCause := rfl
@[simp] theorem setSt_cmdErr (c : Ctl) (s : State) : (setSt c s).blk.cmdErr = s.blk.cmdErr := rfl

/-! `setB` -/

@[simp] theorem setB_hw (v : BitVec 1) (s : State) : (setB v s).hw = s.hw := rfl
@[simp] theorem setB_env (v : BitVec 1) (s : State) : (setB v s).env = s.env := rfl
@[simp] theorem setB_cfg (v : BitVec 1) (s : State) : (setB v s).blk.cfg = s.blk.cfg := rfl
@[simp] theorem setB_ses (v : BitVec 1) (s : State) : (setB v s).blk.ses = s.blk.ses := rfl
@[simp] theorem setB_st (v : BitVec 1) (s : State) : (setB v s).blk.st = s.blk.st := rfl
@[simp] theorem setB_b (v : BitVec 1) (s : State) : (setB v s).blk.b = v := rfl
@[simp] theorem setB_base (v : BitVec 1) (s : State) : (setB v s).blk.base = s.blk.base := rfl
@[simp] theorem setB_nxt (v : BitVec 1) (s : State) : (setB v s).blk.nxt = s.blk.nxt := rfl
@[simp] theorem setB_rtx (v : BitVec 1) (s : State) : (setB v s).blk.rtx = s.blk.rtx := rfl
@[simp] theorem setB_fin (v : BitVec 1) (s : State) : (setB v s).blk.fin = s.blk.fin := rfl
@[simp] theorem setB_expected (v : BitVec 1) (s : State) : (setB v s).blk.expected = s.blk.expected := rfl
@[simp] theorem setB_eos (v : BitVec 1) (s : State) : (setB v s).blk.eos = s.blk.eos := rfl
@[simp] theorem setB_now (v : BitVec 1) (s : State) : (setB v s).blk.now = s.blk.now := rfl
@[simp] theorem setB_corruptSeen (v : BitVec 1) (s : State) : (setB v s).blk.corruptSeen = s.blk.corruptSeen := rfl
@[simp] theorem setB_oooSeen (v : BitVec 1) (s : State) : (setB v s).blk.oooSeen = s.blk.oooSeen := rfl
@[simp] theorem setB_retxSeen (v : BitVec 1) (s : State) : (setB v s).blk.retxSeen = s.blk.retxSeen := rfl
@[simp] theorem setB_lastCause (v : BitVec 1) (s : State) : (setB v s).blk.lastCause = s.blk.lastCause := rfl
@[simp] theorem setB_abortCause (v : BitVec 1) (s : State) : (setB v s).blk.abortCause = s.blk.abortCause := rfl
@[simp] theorem setB_cmdErr (v : BitVec 1) (s : State) : (setB v s).blk.cmdErr = s.blk.cmdErr := rfl

/-! `setBase` -/

@[simp] theorem setBase_hw (v : Half) (s : State) : (setBase v s).hw = s.hw := rfl
@[simp] theorem setBase_env (v : Half) (s : State) : (setBase v s).env = s.env := rfl
@[simp] theorem setBase_cfg (v : Half) (s : State) : (setBase v s).blk.cfg = s.blk.cfg := rfl
@[simp] theorem setBase_ses (v : Half) (s : State) : (setBase v s).blk.ses = s.blk.ses := rfl
@[simp] theorem setBase_st (v : Half) (s : State) : (setBase v s).blk.st = s.blk.st := rfl
@[simp] theorem setBase_b (v : Half) (s : State) : (setBase v s).blk.b = s.blk.b := rfl
@[simp] theorem setBase_base (v : Half) (s : State) : (setBase v s).blk.base = v := rfl
@[simp] theorem setBase_nxt (v : Half) (s : State) : (setBase v s).blk.nxt = s.blk.nxt := rfl
@[simp] theorem setBase_rtx (v : Half) (s : State) : (setBase v s).blk.rtx = s.blk.rtx := rfl
@[simp] theorem setBase_fin (v : Half) (s : State) : (setBase v s).blk.fin = s.blk.fin := rfl
@[simp] theorem setBase_expected (v : Half) (s : State) : (setBase v s).blk.expected = s.blk.expected := rfl
@[simp] theorem setBase_eos (v : Half) (s : State) : (setBase v s).blk.eos = s.blk.eos := rfl
@[simp] theorem setBase_now (v : Half) (s : State) : (setBase v s).blk.now = s.blk.now := rfl
@[simp] theorem setBase_corruptSeen (v : Half) (s : State) : (setBase v s).blk.corruptSeen = s.blk.corruptSeen := rfl
@[simp] theorem setBase_oooSeen (v : Half) (s : State) : (setBase v s).blk.oooSeen = s.blk.oooSeen := rfl
@[simp] theorem setBase_retxSeen (v : Half) (s : State) : (setBase v s).blk.retxSeen = s.blk.retxSeen := rfl
@[simp] theorem setBase_lastCause (v : Half) (s : State) : (setBase v s).blk.lastCause = s.blk.lastCause := rfl
@[simp] theorem setBase_abortCause (v : Half) (s : State) : (setBase v s).blk.abortCause = s.blk.abortCause := rfl
@[simp] theorem setBase_cmdErr (v : Half) (s : State) : (setBase v s).blk.cmdErr = s.blk.cmdErr := rfl

/-! `setNxt` -/

@[simp] theorem setNxt_hw (v : Half) (s : State) : (setNxt v s).hw = s.hw := rfl
@[simp] theorem setNxt_env (v : Half) (s : State) : (setNxt v s).env = s.env := rfl
@[simp] theorem setNxt_cfg (v : Half) (s : State) : (setNxt v s).blk.cfg = s.blk.cfg := rfl
@[simp] theorem setNxt_ses (v : Half) (s : State) : (setNxt v s).blk.ses = s.blk.ses := rfl
@[simp] theorem setNxt_st (v : Half) (s : State) : (setNxt v s).blk.st = s.blk.st := rfl
@[simp] theorem setNxt_b (v : Half) (s : State) : (setNxt v s).blk.b = s.blk.b := rfl
@[simp] theorem setNxt_base (v : Half) (s : State) : (setNxt v s).blk.base = s.blk.base := rfl
@[simp] theorem setNxt_nxt (v : Half) (s : State) : (setNxt v s).blk.nxt = v := rfl
@[simp] theorem setNxt_rtx (v : Half) (s : State) : (setNxt v s).blk.rtx = s.blk.rtx := rfl
@[simp] theorem setNxt_fin (v : Half) (s : State) : (setNxt v s).blk.fin = s.blk.fin := rfl
@[simp] theorem setNxt_expected (v : Half) (s : State) : (setNxt v s).blk.expected = s.blk.expected := rfl
@[simp] theorem setNxt_eos (v : Half) (s : State) : (setNxt v s).blk.eos = s.blk.eos := rfl
@[simp] theorem setNxt_now (v : Half) (s : State) : (setNxt v s).blk.now = s.blk.now := rfl
@[simp] theorem setNxt_corruptSeen (v : Half) (s : State) : (setNxt v s).blk.corruptSeen = s.blk.corruptSeen := rfl
@[simp] theorem setNxt_oooSeen (v : Half) (s : State) : (setNxt v s).blk.oooSeen = s.blk.oooSeen := rfl
@[simp] theorem setNxt_retxSeen (v : Half) (s : State) : (setNxt v s).blk.retxSeen = s.blk.retxSeen := rfl
@[simp] theorem setNxt_lastCause (v : Half) (s : State) : (setNxt v s).blk.lastCause = s.blk.lastCause := rfl
@[simp] theorem setNxt_abortCause (v : Half) (s : State) : (setNxt v s).blk.abortCause = s.blk.abortCause := rfl
@[simp] theorem setNxt_cmdErr (v : Half) (s : State) : (setNxt v s).blk.cmdErr = s.blk.cmdErr := rfl

/-! `setRtx` -/

@[simp] theorem setRtx_hw (q : List Entry) (s : State) : (setRtx q s).hw = s.hw := rfl
@[simp] theorem setRtx_env (q : List Entry) (s : State) : (setRtx q s).env = s.env := rfl
@[simp] theorem setRtx_cfg (q : List Entry) (s : State) : (setRtx q s).blk.cfg = s.blk.cfg := rfl
@[simp] theorem setRtx_ses (q : List Entry) (s : State) : (setRtx q s).blk.ses = s.blk.ses := rfl
@[simp] theorem setRtx_st (q : List Entry) (s : State) : (setRtx q s).blk.st = s.blk.st := rfl
@[simp] theorem setRtx_b (q : List Entry) (s : State) : (setRtx q s).blk.b = s.blk.b := rfl
@[simp] theorem setRtx_base (q : List Entry) (s : State) : (setRtx q s).blk.base = s.blk.base := rfl
@[simp] theorem setRtx_nxt (q : List Entry) (s : State) : (setRtx q s).blk.nxt = s.blk.nxt := rfl
@[simp] theorem setRtx_rtx (q : List Entry) (s : State) : (setRtx q s).blk.rtx = q := rfl
@[simp] theorem setRtx_fin (q : List Entry) (s : State) : (setRtx q s).blk.fin = s.blk.fin := rfl
@[simp] theorem setRtx_expected (q : List Entry) (s : State) : (setRtx q s).blk.expected = s.blk.expected := rfl
@[simp] theorem setRtx_eos (q : List Entry) (s : State) : (setRtx q s).blk.eos = s.blk.eos := rfl
@[simp] theorem setRtx_now (q : List Entry) (s : State) : (setRtx q s).blk.now = s.blk.now := rfl
@[simp] theorem setRtx_corruptSeen (q : List Entry) (s : State) : (setRtx q s).blk.corruptSeen = s.blk.corruptSeen := rfl
@[simp] theorem setRtx_oooSeen (q : List Entry) (s : State) : (setRtx q s).blk.oooSeen = s.blk.oooSeen := rfl
@[simp] theorem setRtx_retxSeen (q : List Entry) (s : State) : (setRtx q s).blk.retxSeen = s.blk.retxSeen := rfl
@[simp] theorem setRtx_lastCause (q : List Entry) (s : State) : (setRtx q s).blk.lastCause = s.blk.lastCause := rfl
@[simp] theorem setRtx_abortCause (q : List Entry) (s : State) : (setRtx q s).blk.abortCause = s.blk.abortCause := rfl
@[simp] theorem setRtx_cmdErr (q : List Entry) (s : State) : (setRtx q s).blk.cmdErr = s.blk.cmdErr := rfl

/-! `setFin` -/

@[simp] theorem setFin_hw (v : Bool) (s : State) : (setFin v s).hw = s.hw := rfl
@[simp] theorem setFin_env (v : Bool) (s : State) : (setFin v s).env = s.env := rfl
@[simp] theorem setFin_cfg (v : Bool) (s : State) : (setFin v s).blk.cfg = s.blk.cfg := rfl
@[simp] theorem setFin_ses (v : Bool) (s : State) : (setFin v s).blk.ses = s.blk.ses := rfl
@[simp] theorem setFin_st (v : Bool) (s : State) : (setFin v s).blk.st = s.blk.st := rfl
@[simp] theorem setFin_b (v : Bool) (s : State) : (setFin v s).blk.b = s.blk.b := rfl
@[simp] theorem setFin_base (v : Bool) (s : State) : (setFin v s).blk.base = s.blk.base := rfl
@[simp] theorem setFin_nxt (v : Bool) (s : State) : (setFin v s).blk.nxt = s.blk.nxt := rfl
@[simp] theorem setFin_rtx (v : Bool) (s : State) : (setFin v s).blk.rtx = s.blk.rtx := rfl
@[simp] theorem setFin_fin (v : Bool) (s : State) : (setFin v s).blk.fin = v := rfl
@[simp] theorem setFin_expected (v : Bool) (s : State) : (setFin v s).blk.expected = s.blk.expected := rfl
@[simp] theorem setFin_eos (v : Bool) (s : State) : (setFin v s).blk.eos = s.blk.eos := rfl
@[simp] theorem setFin_now (v : Bool) (s : State) : (setFin v s).blk.now = s.blk.now := rfl
@[simp] theorem setFin_corruptSeen (v : Bool) (s : State) : (setFin v s).blk.corruptSeen = s.blk.corruptSeen := rfl
@[simp] theorem setFin_oooSeen (v : Bool) (s : State) : (setFin v s).blk.oooSeen = s.blk.oooSeen := rfl
@[simp] theorem setFin_retxSeen (v : Bool) (s : State) : (setFin v s).blk.retxSeen = s.blk.retxSeen := rfl
@[simp] theorem setFin_lastCause (v : Bool) (s : State) : (setFin v s).blk.lastCause = s.blk.lastCause := rfl
@[simp] theorem setFin_abortCause (v : Bool) (s : State) : (setFin v s).blk.abortCause = s.blk.abortCause := rfl
@[simp] theorem setFin_cmdErr (v : Bool) (s : State) : (setFin v s).blk.cmdErr = s.blk.cmdErr := rfl

/-! `setExpected` -/

@[simp] theorem setExpected_hw (v : Half) (s : State) : (setExpected v s).hw = s.hw := rfl
@[simp] theorem setExpected_env (v : Half) (s : State) : (setExpected v s).env = s.env := rfl
@[simp] theorem setExpected_cfg (v : Half) (s : State) : (setExpected v s).blk.cfg = s.blk.cfg := rfl
@[simp] theorem setExpected_ses (v : Half) (s : State) : (setExpected v s).blk.ses = s.blk.ses := rfl
@[simp] theorem setExpected_st (v : Half) (s : State) : (setExpected v s).blk.st = s.blk.st := rfl
@[simp] theorem setExpected_b (v : Half) (s : State) : (setExpected v s).blk.b = s.blk.b := rfl
@[simp] theorem setExpected_base (v : Half) (s : State) : (setExpected v s).blk.base = s.blk.base := rfl
@[simp] theorem setExpected_nxt (v : Half) (s : State) : (setExpected v s).blk.nxt = s.blk.nxt := rfl
@[simp] theorem setExpected_rtx (v : Half) (s : State) : (setExpected v s).blk.rtx = s.blk.rtx := rfl
@[simp] theorem setExpected_fin (v : Half) (s : State) : (setExpected v s).blk.fin = s.blk.fin := rfl
@[simp] theorem setExpected_expected (v : Half) (s : State) : (setExpected v s).blk.expected = v := rfl
@[simp] theorem setExpected_eos (v : Half) (s : State) : (setExpected v s).blk.eos = s.blk.eos := rfl
@[simp] theorem setExpected_now (v : Half) (s : State) : (setExpected v s).blk.now = s.blk.now := rfl
@[simp] theorem setExpected_corruptSeen (v : Half) (s : State) : (setExpected v s).blk.corruptSeen = s.blk.corruptSeen := rfl
@[simp] theorem setExpected_oooSeen (v : Half) (s : State) : (setExpected v s).blk.oooSeen = s.blk.oooSeen := rfl
@[simp] theorem setExpected_retxSeen (v : Half) (s : State) : (setExpected v s).blk.retxSeen = s.blk.retxSeen := rfl
@[simp] theorem setExpected_lastCause (v : Half) (s : State) : (setExpected v s).blk.lastCause = s.blk.lastCause := rfl
@[simp] theorem setExpected_abortCause (v : Half) (s : State) : (setExpected v s).blk.abortCause = s.blk.abortCause := rfl
@[simp] theorem setExpected_cmdErr (v : Half) (s : State) : (setExpected v s).blk.cmdErr = s.blk.cmdErr := rfl

/-! `setNow` -/

@[simp] theorem setNow_hw (v : BitVec 32) (s : State) : (setNow v s).hw = s.hw := rfl
@[simp] theorem setNow_env (v : BitVec 32) (s : State) : (setNow v s).env = s.env := rfl
@[simp] theorem setNow_cfg (v : BitVec 32) (s : State) : (setNow v s).blk.cfg = s.blk.cfg := rfl
@[simp] theorem setNow_ses (v : BitVec 32) (s : State) : (setNow v s).blk.ses = s.blk.ses := rfl
@[simp] theorem setNow_st (v : BitVec 32) (s : State) : (setNow v s).blk.st = s.blk.st := rfl
@[simp] theorem setNow_b (v : BitVec 32) (s : State) : (setNow v s).blk.b = s.blk.b := rfl
@[simp] theorem setNow_base (v : BitVec 32) (s : State) : (setNow v s).blk.base = s.blk.base := rfl
@[simp] theorem setNow_nxt (v : BitVec 32) (s : State) : (setNow v s).blk.nxt = s.blk.nxt := rfl
@[simp] theorem setNow_rtx (v : BitVec 32) (s : State) : (setNow v s).blk.rtx = s.blk.rtx := rfl
@[simp] theorem setNow_fin (v : BitVec 32) (s : State) : (setNow v s).blk.fin = s.blk.fin := rfl
@[simp] theorem setNow_expected (v : BitVec 32) (s : State) : (setNow v s).blk.expected = s.blk.expected := rfl
@[simp] theorem setNow_eos (v : BitVec 32) (s : State) : (setNow v s).blk.eos = s.blk.eos := rfl
@[simp] theorem setNow_now (v : BitVec 32) (s : State) : (setNow v s).blk.now = v := rfl
@[simp] theorem setNow_corruptSeen (v : BitVec 32) (s : State) : (setNow v s).blk.corruptSeen = s.blk.corruptSeen := rfl
@[simp] theorem setNow_oooSeen (v : BitVec 32) (s : State) : (setNow v s).blk.oooSeen = s.blk.oooSeen := rfl
@[simp] theorem setNow_retxSeen (v : BitVec 32) (s : State) : (setNow v s).blk.retxSeen = s.blk.retxSeen := rfl
@[simp] theorem setNow_lastCause (v : BitVec 32) (s : State) : (setNow v s).blk.lastCause = s.blk.lastCause := rfl
@[simp] theorem setNow_abortCause (v : BitVec 32) (s : State) : (setNow v s).blk.abortCause = s.blk.abortCause := rfl
@[simp] theorem setNow_cmdErr (v : BitVec 32) (s : State) : (setNow v s).blk.cmdErr = s.blk.cmdErr := rfl

/-! `setAbortCause` -/

@[simp] theorem setAbortCause_hw (v : Byte) (s : State) : (setAbortCause v s).hw = s.hw := rfl
@[simp] theorem setAbortCause_env (v : Byte) (s : State) : (setAbortCause v s).env = s.env := rfl
@[simp] theorem setAbortCause_cfg (v : Byte) (s : State) : (setAbortCause v s).blk.cfg = s.blk.cfg := rfl
@[simp] theorem setAbortCause_ses (v : Byte) (s : State) : (setAbortCause v s).blk.ses = s.blk.ses := rfl
@[simp] theorem setAbortCause_st (v : Byte) (s : State) : (setAbortCause v s).blk.st = s.blk.st := rfl
@[simp] theorem setAbortCause_b (v : Byte) (s : State) : (setAbortCause v s).blk.b = s.blk.b := rfl
@[simp] theorem setAbortCause_base (v : Byte) (s : State) : (setAbortCause v s).blk.base = s.blk.base := rfl
@[simp] theorem setAbortCause_nxt (v : Byte) (s : State) : (setAbortCause v s).blk.nxt = s.blk.nxt := rfl
@[simp] theorem setAbortCause_rtx (v : Byte) (s : State) : (setAbortCause v s).blk.rtx = s.blk.rtx := rfl
@[simp] theorem setAbortCause_fin (v : Byte) (s : State) : (setAbortCause v s).blk.fin = s.blk.fin := rfl
@[simp] theorem setAbortCause_expected (v : Byte) (s : State) : (setAbortCause v s).blk.expected = s.blk.expected := rfl
@[simp] theorem setAbortCause_eos (v : Byte) (s : State) : (setAbortCause v s).blk.eos = s.blk.eos := rfl
@[simp] theorem setAbortCause_now (v : Byte) (s : State) : (setAbortCause v s).blk.now = s.blk.now := rfl
@[simp] theorem setAbortCause_corruptSeen (v : Byte) (s : State) : (setAbortCause v s).blk.corruptSeen = s.blk.corruptSeen := rfl
@[simp] theorem setAbortCause_oooSeen (v : Byte) (s : State) : (setAbortCause v s).blk.oooSeen = s.blk.oooSeen := rfl
@[simp] theorem setAbortCause_retxSeen (v : Byte) (s : State) : (setAbortCause v s).blk.retxSeen = s.blk.retxSeen := rfl
@[simp] theorem setAbortCause_lastCause (v : Byte) (s : State) : (setAbortCause v s).blk.lastCause = s.blk.lastCause := rfl
@[simp] theorem setAbortCause_abortCause (v : Byte) (s : State) : (setAbortCause v s).blk.abortCause = v := rfl
@[simp] theorem setAbortCause_cmdErr (v : Byte) (s : State) : (setAbortCause v s).blk.cmdErr = s.blk.cmdErr := rfl

/-! `setRetxSeen` -/

@[simp] theorem setRetxSeen_hw (s : State) : (setRetxSeen s).hw = s.hw := rfl
@[simp] theorem setRetxSeen_env (s : State) : (setRetxSeen s).env = s.env := rfl
@[simp] theorem setRetxSeen_cfg (s : State) : (setRetxSeen s).blk.cfg = s.blk.cfg := rfl
@[simp] theorem setRetxSeen_ses (s : State) : (setRetxSeen s).blk.ses = s.blk.ses := rfl
@[simp] theorem setRetxSeen_st (s : State) : (setRetxSeen s).blk.st = s.blk.st := rfl
@[simp] theorem setRetxSeen_b (s : State) : (setRetxSeen s).blk.b = s.blk.b := rfl
@[simp] theorem setRetxSeen_base (s : State) : (setRetxSeen s).blk.base = s.blk.base := rfl
@[simp] theorem setRetxSeen_nxt (s : State) : (setRetxSeen s).blk.nxt = s.blk.nxt := rfl
@[simp] theorem setRetxSeen_rtx (s : State) : (setRetxSeen s).blk.rtx = s.blk.rtx := rfl
@[simp] theorem setRetxSeen_fin (s : State) : (setRetxSeen s).blk.fin = s.blk.fin := rfl
@[simp] theorem setRetxSeen_expected (s : State) : (setRetxSeen s).blk.expected = s.blk.expected := rfl
@[simp] theorem setRetxSeen_eos (s : State) : (setRetxSeen s).blk.eos = s.blk.eos := rfl
@[simp] theorem setRetxSeen_now (s : State) : (setRetxSeen s).blk.now = s.blk.now := rfl
@[simp] theorem setRetxSeen_corruptSeen (s : State) : (setRetxSeen s).blk.corruptSeen = s.blk.corruptSeen := rfl
@[simp] theorem setRetxSeen_oooSeen (s : State) : (setRetxSeen s).blk.oooSeen = s.blk.oooSeen := rfl
@[simp] theorem setRetxSeen_retxSeen (s : State) : (setRetxSeen s).blk.retxSeen = true := rfl
@[simp] theorem setRetxSeen_lastCause (s : State) : (setRetxSeen s).blk.lastCause = s.blk.lastCause := rfl
@[simp] theorem setRetxSeen_abortCause (s : State) : (setRetxSeen s).blk.abortCause = s.blk.abortCause := rfl
@[simp] theorem setRetxSeen_cmdErr (s : State) : (setRetxSeen s).blk.cmdErr = s.blk.cmdErr := rfl

/-! `raise` (60_exceptions R262) -/

@[simp] theorem raise_hw (c : Cause) (s : State) : (raise c s).hw = s.hw := rfl
@[simp] theorem raise_env (c : Cause) (s : State) : (raise c s).env = s.env := rfl
@[simp] theorem raise_cfg (c : Cause) (s : State) : (raise c s).blk.cfg = s.blk.cfg := rfl
@[simp] theorem raise_ses (c : Cause) (s : State) : (raise c s).blk.ses = s.blk.ses := rfl
@[simp] theorem raise_st (c : Cause) (s : State) : (raise c s).blk.st = s.blk.st := rfl
@[simp] theorem raise_b (c : Cause) (s : State) : (raise c s).blk.b = s.blk.b := rfl
@[simp] theorem raise_base (c : Cause) (s : State) : (raise c s).blk.base = s.blk.base := rfl
@[simp] theorem raise_nxt (c : Cause) (s : State) : (raise c s).blk.nxt = s.blk.nxt := rfl
@[simp] theorem raise_rtx (c : Cause) (s : State) : (raise c s).blk.rtx = s.blk.rtx := rfl
@[simp] theorem raise_fin (c : Cause) (s : State) : (raise c s).blk.fin = s.blk.fin := rfl
@[simp] theorem raise_expected (c : Cause) (s : State) : (raise c s).blk.expected = s.blk.expected := rfl
@[simp] theorem raise_eos (c : Cause) (s : State) : (raise c s).blk.eos = s.blk.eos := rfl
@[simp] theorem raise_now (c : Cause) (s : State) : (raise c s).blk.now = s.blk.now := rfl
@[simp] theorem raise_corruptSeen (c : Cause) (s : State) : (raise c s).blk.corruptSeen = (s.blk.corruptSeen || c.isCorrupt) := rfl
@[simp] theorem raise_oooSeen (c : Cause) (s : State) : (raise c s).blk.oooSeen = (s.blk.oooSeen || decide (c = .outOfOrder) || decide (c = .duplicate)) := rfl
@[simp] theorem raise_retxSeen (c : Cause) (s : State) : (raise c s).blk.retxSeen = (s.blk.retxSeen || decide (c = .timeout)) := rfl
@[simp] theorem raise_lastCause (c : Cause) (s : State) : (raise c s).blk.lastCause = c := rfl
@[simp] theorem raise_abortCause (c : Cause) (s : State) : (raise c s).blk.abortCause = s.blk.abortCause := rfl
@[simp] theorem raise_cmdErr (c : Cause) (s : State) : (raise c s).blk.cmdErr = s.blk.cmdErr := rfl

/-! `csrWrite` -/

@[simp] theorem csrWrite_hw (n : Nat) (v : BitVec 32) (s : State) : (csrWrite n v s).hw = s.hw := rfl
@[simp] theorem csrWrite_env (n : Nat) (v : BitVec 32) (s : State) : (csrWrite n v s).env = s.env := rfl
@[simp] theorem csrWrite_cfg (n : Nat) (v : BitVec 32) (s : State) : (csrWrite n v s).blk.cfg = cfgAfterWrite n v s.blk.cfg := rfl
@[simp] theorem csrWrite_ses (n : Nat) (v : BitVec 32) (s : State) : (csrWrite n v s).blk.ses = s.blk.ses := rfl
@[simp] theorem csrWrite_st (n : Nat) (v : BitVec 32) (s : State) : (csrWrite n v s).blk.st = s.blk.st := rfl
@[simp] theorem csrWrite_b (n : Nat) (v : BitVec 32) (s : State) : (csrWrite n v s).blk.b = s.blk.b := rfl
@[simp] theorem csrWrite_base (n : Nat) (v : BitVec 32) (s : State) : (csrWrite n v s).blk.base = s.blk.base := rfl
@[simp] theorem csrWrite_nxt (n : Nat) (v : BitVec 32) (s : State) : (csrWrite n v s).blk.nxt = s.blk.nxt := rfl
@[simp] theorem csrWrite_rtx (n : Nat) (v : BitVec 32) (s : State) : (csrWrite n v s).blk.rtx = s.blk.rtx := rfl
@[simp] theorem csrWrite_fin (n : Nat) (v : BitVec 32) (s : State) : (csrWrite n v s).blk.fin = s.blk.fin := rfl
@[simp] theorem csrWrite_expected (n : Nat) (v : BitVec 32) (s : State) : (csrWrite n v s).blk.expected = s.blk.expected := rfl
@[simp] theorem csrWrite_eos (n : Nat) (v : BitVec 32) (s : State) : (csrWrite n v s).blk.eos = s.blk.eos := rfl
@[simp] theorem csrWrite_now (n : Nat) (v : BitVec 32) (s : State) : (csrWrite n v s).blk.now = s.blk.now := rfl
@[simp] theorem csrWrite_corruptSeen (n : Nat) (v : BitVec 32) (s : State) : (csrWrite n v s).blk.corruptSeen = s.blk.corruptSeen := rfl
@[simp] theorem csrWrite_oooSeen (n : Nat) (v : BitVec 32) (s : State) : (csrWrite n v s).blk.oooSeen = s.blk.oooSeen := rfl
@[simp] theorem csrWrite_retxSeen (n : Nat) (v : BitVec 32) (s : State) : (csrWrite n v s).blk.retxSeen = s.blk.retxSeen := rfl
@[simp] theorem csrWrite_lastCause (n : Nat) (v : BitVec 32) (s : State) : (csrWrite n v s).blk.lastCause = s.blk.lastCause := rfl
@[simp] theorem csrWrite_abortCause (n : Nat) (v : BitVec 32) (s : State) : (csrWrite n v s).blk.abortCause = s.blk.abortCause := rfl
@[simp] theorem csrWrite_cmdErr (n : Nat) (v : BitVec 32) (s : State) : (csrWrite n v s).blk.cmdErr = s.blk.cmdErr := rfl

/-! `emit` (00_scope R14) -/

@[simp] theorem emit_hw (f : Datagram) (s : State) : (emit f s).hw = s.hw := rfl
@[simp] theorem emit_blk (f : Datagram) (s : State) : (emit f s).blk = s.blk := rfl
@[simp] theorem emit_agenda (f : Datagram) (s : State) : (emit f s).env.agenda = s.env.agenda := rfl
@[simp] theorem emit_cmds (f : Datagram) (s : State) : (emit f s).env.cmds = s.env.cmds := rfl
@[simp] theorem emit_chIn (f : Datagram) (s : State) : (emit f s).env.chIn = s.env.chIn := rfl
@[simp] theorem emit_out (f : Datagram) (s : State) : (emit f s).env.out = s.env.out ++ [.emit f] := rfl
@[simp] theorem emit_csrData (f : Datagram) (s : State) : (emit f s).env.csrData = s.env.csrData := rfl
@[simp] theorem emit_unitOut (f : Datagram) (s : State) : (emit f s).env.unitOut = s.env.unitOut := rfl
@[simp] theorem emit_freeDraws (f : Datagram) (s : State) : (emit f s).env.freeDraws = s.env.freeDraws := rfl

/-! `emitAll` -/

@[simp] theorem emitAll_hw (fs : List Datagram) (s : State) : (emitAll fs s).hw = s.hw := rfl
@[simp] theorem emitAll_blk (fs : List Datagram) (s : State) : (emitAll fs s).blk = s.blk := rfl
@[simp] theorem emitAll_agenda (fs : List Datagram) (s : State) : (emitAll fs s).env.agenda = s.env.agenda := rfl
@[simp] theorem emitAll_cmds (fs : List Datagram) (s : State) : (emitAll fs s).env.cmds = s.env.cmds := rfl
@[simp] theorem emitAll_chIn (fs : List Datagram) (s : State) : (emitAll fs s).env.chIn = s.env.chIn := rfl
@[simp] theorem emitAll_out (fs : List Datagram) (s : State) : (emitAll fs s).env.out = s.env.out ++ fs.map .emit := rfl
@[simp] theorem emitAll_csrData (fs : List Datagram) (s : State) : (emitAll fs s).env.csrData = s.env.csrData := rfl
@[simp] theorem emitAll_unitOut (fs : List Datagram) (s : State) : (emitAll fs s).env.unitOut = s.env.unitOut := rfl
@[simp] theorem emitAll_freeDraws (fs : List Datagram) (s : State) : (emitAll fs s).env.freeDraws = s.env.freeDraws := rfl

/-! `deliver` (00_scope R14) -/

@[simp] theorem deliver_hw (p : List Byte) (s : State) : (deliver p s).hw = s.hw := rfl
@[simp] theorem deliver_blk (p : List Byte) (s : State) : (deliver p s).blk = s.blk := rfl
@[simp] theorem deliver_agenda (p : List Byte) (s : State) : (deliver p s).env.agenda = s.env.agenda := rfl
@[simp] theorem deliver_cmds (p : List Byte) (s : State) : (deliver p s).env.cmds = s.env.cmds := rfl
@[simp] theorem deliver_chIn (p : List Byte) (s : State) : (deliver p s).env.chIn = s.env.chIn := rfl
@[simp] theorem deliver_out (p : List Byte) (s : State) : (deliver p s).env.out = s.env.out ++ [.deliver p] := rfl
@[simp] theorem deliver_csrData (p : List Byte) (s : State) : (deliver p s).env.csrData = s.env.csrData := rfl
@[simp] theorem deliver_unitOut (p : List Byte) (s : State) : (deliver p s).env.unitOut = s.env.unitOut := rfl
@[simp] theorem deliver_freeDraws (p : List Byte) (s : State) : (deliver p s).env.freeDraws = s.env.freeDraws := rfl

/-! `signalEos` (00_scope R14) -/

@[simp] theorem signalEos_hw (s : State) : (signalEos s).hw = s.hw := rfl
@[simp] theorem signalEos_cfg (s : State) : (signalEos s).blk.cfg = s.blk.cfg := rfl
@[simp] theorem signalEos_ses (s : State) : (signalEos s).blk.ses = s.blk.ses := rfl
@[simp] theorem signalEos_st (s : State) : (signalEos s).blk.st = s.blk.st := rfl
@[simp] theorem signalEos_b (s : State) : (signalEos s).blk.b = s.blk.b := rfl
@[simp] theorem signalEos_base (s : State) : (signalEos s).blk.base = s.blk.base := rfl
@[simp] theorem signalEos_nxt (s : State) : (signalEos s).blk.nxt = s.blk.nxt := rfl
@[simp] theorem signalEos_rtx (s : State) : (signalEos s).blk.rtx = s.blk.rtx := rfl
@[simp] theorem signalEos_fin (s : State) : (signalEos s).blk.fin = s.blk.fin := rfl
@[simp] theorem signalEos_expected (s : State) : (signalEos s).blk.expected = s.blk.expected := rfl
@[simp] theorem signalEos_eos (s : State) : (signalEos s).blk.eos = true := rfl
@[simp] theorem signalEos_now (s : State) : (signalEos s).blk.now = s.blk.now := rfl
@[simp] theorem signalEos_corruptSeen (s : State) : (signalEos s).blk.corruptSeen = s.blk.corruptSeen := rfl
@[simp] theorem signalEos_oooSeen (s : State) : (signalEos s).blk.oooSeen = s.blk.oooSeen := rfl
@[simp] theorem signalEos_retxSeen (s : State) : (signalEos s).blk.retxSeen = s.blk.retxSeen := rfl
@[simp] theorem signalEos_lastCause (s : State) : (signalEos s).blk.lastCause = s.blk.lastCause := rfl
@[simp] theorem signalEos_abortCause (s : State) : (signalEos s).blk.abortCause = s.blk.abortCause := rfl
@[simp] theorem signalEos_cmdErr (s : State) : (signalEos s).blk.cmdErr = s.blk.cmdErr := rfl
@[simp] theorem signalEos_agenda (s : State) : (signalEos s).env.agenda = s.env.agenda := rfl
@[simp] theorem signalEos_cmds (s : State) : (signalEos s).env.cmds = s.env.cmds := rfl
@[simp] theorem signalEos_chIn (s : State) : (signalEos s).env.chIn = s.env.chIn := rfl
@[simp] theorem signalEos_out (s : State) : (signalEos s).env.out = s.env.out ++ [.signalEos] := rfl
@[simp] theorem signalEos_csrData (s : State) : (signalEos s).env.csrData = s.env.csrData := rfl
@[simp] theorem signalEos_unitOut (s : State) : (signalEos s).env.unitOut = s.env.unitOut := rfl
@[simp] theorem signalEos_freeDraws (s : State) : (signalEos s).env.freeDraws = s.env.freeDraws := rfl

/-! `setUnitOut` -/

@[simp] theorem setUnitOut_hw (v : UnitResult) (s : State) : (setUnitOut v s).hw = s.hw := rfl
@[simp] theorem setUnitOut_blk (v : UnitResult) (s : State) : (setUnitOut v s).blk = s.blk := rfl
@[simp] theorem setUnitOut_agenda (v : UnitResult) (s : State) : (setUnitOut v s).env.agenda = s.env.agenda := rfl
@[simp] theorem setUnitOut_cmds (v : UnitResult) (s : State) : (setUnitOut v s).env.cmds = s.env.cmds := rfl
@[simp] theorem setUnitOut_chIn (v : UnitResult) (s : State) : (setUnitOut v s).env.chIn = s.env.chIn := rfl
@[simp] theorem setUnitOut_out (v : UnitResult) (s : State) : (setUnitOut v s).env.out = s.env.out := rfl
@[simp] theorem setUnitOut_csrData (v : UnitResult) (s : State) : (setUnitOut v s).env.csrData = s.env.csrData := rfl
@[simp] theorem setUnitOut_unitOut (v : UnitResult) (s : State) : (setUnitOut v s).env.unitOut = v := rfl
@[simp] theorem setUnitOut_freeDraws (v : UnitResult) (s : State) : (setUnitOut v s).env.freeDraws = s.env.freeDraws := rfl

/-! `drawFree` (log 10) -/

@[simp] theorem drawFree_hw (s : State) : (drawFree s).hw = s.hw := rfl
@[simp] theorem drawFree_blk (s : State) : (drawFree s).blk = s.blk := rfl
@[simp] theorem drawFree_agenda (s : State) : (drawFree s).env.agenda = s.env.agenda := rfl
@[simp] theorem drawFree_cmds (s : State) : (drawFree s).env.cmds = s.env.cmds := rfl
@[simp] theorem drawFree_chIn (s : State) : (drawFree s).env.chIn = s.env.chIn := rfl
@[simp] theorem drawFree_out (s : State) : (drawFree s).env.out = s.env.out := rfl
@[simp] theorem drawFree_csrData (s : State) : (drawFree s).env.csrData = s.env.csrData := rfl
@[simp] theorem drawFree_unitOut (s : State) : (drawFree s).env.unitOut = s.env.unitOut := rfl
@[simp] theorem drawFree_freeDraws (s : State) : (drawFree s).env.freeDraws = s.env.freeDraws + 1 := rfl

/-! `csrRead` (10_state R43) -/

@[simp] theorem csrRead_hw (n : Nat) (s : State) : (csrRead n s).hw = s.hw := rfl
@[simp] theorem csrRead_blk (n : Nat) (s : State) : (csrRead n s).blk = s.blk := rfl
@[simp] theorem csrRead_agenda (n : Nat) (s : State) : (csrRead n s).env.agenda = s.env.agenda := rfl
@[simp] theorem csrRead_cmds (n : Nat) (s : State) : (csrRead n s).env.cmds = s.env.cmds := rfl
@[simp] theorem csrRead_chIn (n : Nat) (s : State) : (csrRead n s).env.chIn = s.env.chIn := rfl
@[simp] theorem csrRead_out (n : Nat) (s : State) : (csrRead n s).env.out = s.env.out := rfl
@[simp] theorem csrRead_csrData (n : Nat) (s : State) : (csrRead n s).env.csrData = csrValue n s := rfl
@[simp] theorem csrRead_unitOut (n : Nat) (s : State) : (csrRead n s).env.unitOut = s.env.unitOut := rfl
@[simp] theorem csrRead_freeDraws (n : Nat) (s : State) : (csrRead n s).env.freeDraws = s.env.freeDraws := rfl

/-! `assertReset` (70_reset_and_hazards R290) -/

@[simp] theorem assertReset_hw (s : State) : (assertReset s).hw = s.hw := rfl
@[simp] theorem assertReset_blk (s : State) : (assertReset s).blk = resetBlock := rfl
@[simp] theorem assertReset_env (s : State) : (assertReset s).env = s.env := rfl

end Sys2Proof.Machine
end

