-- ==== Sys2Proof/Laws/Ops.lean ====
section
/-! SUPPORT. What each shared operation can do, said once: guarded rules, refusals, admission, the answers of a receiver,
sending and resending. -/

namespace Sys2Proof.Machine

/-! ## Guarded rules -/

@[simp] theorem guarded_true (t : State) : guarded true t = .next t := rfl
@[simp] theorem guarded_false (t : State) : guarded false t = .fault .conditionFalse := rfl

theorem guarded_of (c : Bool) (t : State) (h : c = true) : guarded c t = .next t := by subst h; rfl

/-- A guarded rule that answers a next state had its condition and made its effect. -/
theorem guarded_next {c : Bool} {t u : State} (h : guarded c t = .next u) : c = true ∧ u = t := by
  cases c with
  | false => cases h
  | true => cases h; exact ⟨rfl, rfl⟩

/-! ## Refusal and acceptance -/

@[simp] theorem refuse_eq (r : CmdResult) (s : State) : refuse r s = setCmdErr r s := rfl
@[simp] theorem accept_eq (s : State) : accept s = setCmdErr .ok s := rfl

/-- A command is admitted exactly when all four checks of 43_session_control R189 pass. -/
theorem txAdmit_ok_iff (kind : TxKind) (p : List Byte) (s : State) :
    txAdmit kind p s = .ok ↔ s.blk.ses.role = .sender ∧ (s.blk.st = .ready ∨ s.blk.st = .awaitingAck) ∧
      s.blk.fin = false ∧ (kind = .push → p.length ≤ s.blk.ses.mss.toNat) ∧
      s.blk.rtx.length < s.blk.ses.w.toNat := by
  unfold txAdmit
  split
  · rename_i h
    constructor
    · intro h'; cases h'
    · rintro ⟨h1, h2, -⟩
      rcases h with h | ⟨ha, hb⟩
      · exact absurd h1 h
      · rcases h2 with h2 | h2
        · exact absurd h2 ha
        · exact absurd h2 hb
  · rename_i h
    have hrole : s.blk.ses.role = .sender := by
      by_contra hc
      exact h (.inl hc)
    have hst : s.blk.st = .ready ∨ s.blk.st = .awaitingAck := by
      by_contra hc
      exact h (.inr ⟨fun e => hc (.inl e), fun e => hc (.inr e)⟩)
    split
    · rename_i hf
      constructor
      · intro h'; cases h'
      · rintro ⟨-, -, h3, -⟩
        rw [hf] at h3; cases h3
    · rename_i hf
      have hf' : s.blk.fin = false := by simpa using hf
      split
      · rename_i hl
        constructor
        · intro h'; cases h'
        · rintro ⟨-, -, -, h4, -⟩
          exact absurd (h4 hl.1) (by omega)
      · rename_i hl
        split
        · rename_i hb
          constructor
          · intro h'; cases h'
          · rintro ⟨-, -, -, -, h5⟩
            omega
        · rename_i hb
          refine ⟨fun _ => ⟨hrole, hst, hf', fun hk => ?_, by omega⟩, fun _ => rfl⟩
          by_contra hc
          exact hl ⟨hk, by omega⟩

/-! ## Reading a decoded buffer -/

theorem hasFlag_iff (d : Decoded) (f : Byte) : d.hasFlag f = true ↔ ∃ seq p, d = .segment seq f p := by
  cases d with
  | segment seq flag p =>
    simp only [Decoded.hasFlag, decide_eq_true_eq]
    constructor
    · rintro rfl; exact ⟨seq, p, rfl⟩
    · rintro ⟨a, b, h⟩; cases h; rfl
  | corrupt sub => simp [Decoded.hasFlag]

theorem isCorrupt_iff (d : Decoded) : d.isCorrupt = true ↔ ∃ sub, d = .corrupt sub := by
  cases d <;> simp [Decoded.isCorrupt]

/-! ## Answers of a receiver -/

@[simp] theorem reAck_hw (c : Cause) (a : Half) (s : State) : (reAck c a s).hw = s.hw := rfl
@[simp] theorem reAck_blk (c : Cause) (a : Half) (s : State) : (reAck c a s).blk = (raise c s).blk := rfl
@[simp] theorem reAck_out (c : Cause) (a : Half) (s : State) :
    (reAck c a s).env.out = s.env.out ++ [.emit (mkAck s.blk.ses a)] := rfl

/-- An accepted DATA segment: one delivery, then its acknowledgment; `expected` is all the block changes. -/
theorem acceptData_eq (x : Half) (d : Decoded) (s : State) :
    acceptData x d s = { s with
      blk := { s.blk with expected := x }
      env := { s.env with out := s.env.out ++ [.deliver d.payload, .emit (mkAck s.blk.ses d.seqNum)] } } := by
  simp [acceptData, emit, deliver, setExpected]

/-- An accepted FIN: end of stream, then its acknowledgment; the receiver closes. -/
theorem acceptFin_eq (x : Half) (d : Decoded) (s : State) :
    acceptFin x d s = { s with
      blk := { s.blk with eos := true, expected := x, st := .closed }
      env := { s.env with out := s.env.out ++ [.signalEos, .emit (mkAck s.blk.ses d.seqNum)] } } := by
  simp [acceptFin, emit, signalEos, setExpected, setSt]

/-! ## Cancelling -/

/-- TM_CANCEL always goes on: some of the oldest entries leave, `k` of them where `k` is in range, and the rest stand as
they are. A free value is drawn where it is not. -/
theorem execTmCancel_next (k : Half) (s : State) : ∃ n d : Nat,
    execTmCancel k s = .next { s with
      blk := { s.blk with rtx := s.blk.rtx.drop n }, env := { s.env with freeDraws := d } } ∧
    (1 ≤ k.toNat ∧ k.toNat ≤ s.blk.rtx.length → n = k.toNat ∧ d = s.env.freeDraws) ∧
    (¬(1 ≤ k.toNat ∧ k.toNat ≤ s.blk.rtx.length) → d = s.env.freeDraws + 1) := by
  unfold execTmCancel
  split
  · rename_i h
    exact ⟨k.toNat, s.env.freeDraws, rfl, fun _ => ⟨rfl, rfl⟩, fun c => absurd h c⟩
  · rename_i h
    exact ⟨_, s.env.freeDraws + 1, rfl, fun c => absurd c h, fun _ => rfl⟩

/-! ## Sending and resending -/

/-- A segment is sent: one emission and one armed entry at the tail of the queue. -/
theorem sendSegment_eq (seq : Half) (flag : Byte) (p : List Byte) (s : State) :
    sendSegment seq flag p s = { s with
      blk := { s.blk with rtx := s.blk.rtx ++
        [{ seq := seq, frame := encodeSeg s.blk.ses seq flag p, deadline := s.blk.now + s.blk.ses.t }] }
      env := { s.env with out := s.env.out ++ [.emit (encodeSeg s.blk.ses seq flag p)] } } := rfl

/-- The stored frame at the head is emitted again and re-armed. -/
theorem resendHead_eq (e : Entry) (rest : List Entry) (s : State) :
    resendHead e rest s = { s with
      blk := { s.blk with rtx := { e with deadline := s.blk.now + s.blk.ses.t } :: rest }
      env := { s.env with out := s.env.out ++ [.emit e.frame] } } := rfl

/-- The whole window is emitted again and re-armed. -/
theorem resendWindow_eq (s : State) :
    resendWindow s = { s with
      blk := { s.blk with rtx := s.blk.rtx.map (armEntry s) }
      env := { s.env with out := s.env.out ++ (s.blk.rtx.map Entry.frame).map .emit } } := rfl

/-- The acknowledged entries leave the queue and `base` moves past them. -/
theorem retire_eq (a : Half) (s : State) :
    retire a s = { s with blk := { s.blk with
      rtx := s.blk.rtx.drop (ackDist a s + 1), base := seqSucc a s.blk.ses.m } } := rfl

end Sys2Proof.Machine
end

