-- ==== Sys2Proof/Laws/Encoding.lean ====
section
/-! SUPPORT. Byte order, the frame rows, and the rows of a dispatch word: what a later proof about decoding cites. -/

namespace Sys2Proof

open Sys2Proof.Machine

/-! ## Byte order -/

@[simp] theorem be16_hi_lo (v : Half) : be16 (hiByte v) (loByte v) = v := by
  apply BitVec.eq_of_getLsbD_eq
  intro i hi
  simp only [be16, hiByte, loByte, BitVec.getLsbD_append, BitVec.getLsbD_extractLsb']
  by_cases h : i < 8
  · simp [h]
  · have : i - 8 < 8 := by omega
    have h8 : 8 + (i - 8) = i := by omega
    simp [h, this, h8]

@[simp] theorem hiByte_be16 (x y : Byte) : hiByte (be16 x y) = x := by
  apply BitVec.eq_of_getLsbD_eq
  intro i hi
  simp only [be16, hiByte, BitVec.getLsbD_append, BitVec.getLsbD_extractLsb']
  have h1 : ¬(8 + i < 8) := by omega
  have h2 : 8 + i - 8 = i := by omega
  simp [hi, h1, h2]

@[simp] theorem loByte_be16 (x y : Byte) : loByte (be16 x y) = y := by
  apply BitVec.eq_of_getLsbD_eq
  intro i hi
  simp only [be16, loByte, BitVec.getLsbD_append, BitVec.getLsbD_extractLsb']
  simp [hi]

@[simp] theorem be16Bytes_be16 (x y : Byte) : be16Bytes (be16 x y) = [x, y] := by simp [be16Bytes]

@[simp] theorem be16Bytes_length (v : Half) : (be16Bytes v).length = 2 := rfl

/-! ## Frame rows -/

/-- A frame row keeps every byte of its buffer. -/
theorem frameWord_bytes (buf : List Byte) : (encode (decodeFrameWord buf)).2 = buf := by
  unfold decodeFrameWord
  split
  · rename_i s1 s0 f l1 l0 rest
    split
    · rfl
    · rename_i hill
      have hl : ¬(rest.length < 2 ∨ 2 < f.toNat ∨ (f ≠ 0 ∧ (l1 ≠ 0 ∨ l0 ≠ 0))) := by
        simpa [illegalHeader] using hill
      split
      · rename_i h0; subst h0; simp [encode]
      · rename_i h0
        have hz : l1 = 0 ∧ l0 = 0 := by
          by_contra hc
          apply hl
          refine .inr (.inr ⟨h0, ?_⟩)
          by_contra hd
          exact hc ⟨by by_contra h; exact hd (.inl h), by by_contra h; exact hd (.inr h)⟩
        obtain ⟨rfl, rfl⟩ := hz
        split
        · rename_i h1; subst h1; simp [encode]
        · rename_i h1
          have hf : f = 2#8 := by
            have h2 : f.toNat ≤ 2 := by
              by_contra h; exact hl (.inr (.inl (by omega)))
            have n0 : f.toNat ≠ 0 := fun h => h0 (BitVec.eq_of_toNat_eq (by simpa using h))
            have n1 : f.toNat ≠ 1 := fun h => h1 (BitVec.eq_of_toNat_eq (by simpa using h))
            exact BitVec.eq_of_toNat_eq (by simp; omega)
          subst hf; simp [encode]
  · rfl

/-- A buffer has one of the four frame rows. -/
theorem frameWord_cases (buf : List Byte) :
    (∃ seq len rest, decodeFrameWord buf = .frameData seq len rest) ∨
    (∃ seq rest, decodeFrameWord buf = .frameAck seq rest) ∨
    (∃ seq rest, decodeFrameWord buf = .frameFin seq rest) ∨
    decodeFrameWord buf = .frameIllegal buf := by
  unfold decodeFrameWord
  split
  · split
    · exact .inr (.inr (.inr rfl))
    · split
      · exact .inl ⟨_, _, _, rfl⟩
      · split
        · exact .inr (.inl ⟨_, _, rfl⟩)
        · exact .inr (.inr (.inl ⟨_, _, rfl⟩))
  · exact .inr (.inr (.inr rfl))

/-- A buffer at the port is handled as `RX_FRAME` of exactly that buffer, whichever frame row it is. -/
theorem exec_frameWord (buf : List Byte) (s : State) : exec (decodeFrameWord buf) s = rxFrame buf s := by
  have hb := frameWord_bytes buf
  rcases frameWord_cases buf with ⟨a, b, c, h⟩ | ⟨a, c, h⟩ | ⟨a, c, h⟩ | h
  · rw [h] at hb ⊢
    show rxFrame (encode (.frameData a b c)).2 s = _
    rw [hb]
  · rw [h] at hb ⊢
    show rxFrame (encode (.frameAck a c)).2 s = _
    rw [hb]
  · rw [h] at hb ⊢
    show rxFrame (encode (.frameFin a c)).2 s = _
    rw [hb]
  · rw [h]; rfl

/-! ## Dispatch words -/

@[simp] theorem dwRole_dwByte (r m : BitVec 1) (e c : BitVec 3) : dwRole (dwByte r m e c) = r := by
  revert r m e c; decide
@[simp] theorem dwMode_dwByte (r m : BitVec 1) (e c : BitVec 3) : dwMode (dwByte r m e c) = m := by
  revert r m e c; decide
@[simp] theorem dwEv_dwByte (r m : BitVec 1) (e c : BitVec 3) : dwEv (dwByte r m e c) = e := by
  revert r m e c; decide
@[simp] theorem dwCls_dwByte (r m : BitVec 1) (e c : BitVec 3) : dwCls (dwByte r m e c) = c := by
  revert r m e c; decide

/-- A dispatch word is its four fields. -/
theorem dwByte_fields (w : Byte) : dwByte (dwRole w) (dwMode w) (dwEv w) (dwCls w) = w := by
  revert w; decide

end Sys2Proof
end

