-- ==== Sys2Proof/Laws/Exec.lean ====
section
/-! SUPPORT. What running an operation can do, said once: the operations at a port run a transition row, a row that goes
on had its condition, and a step is a happening or an operation. -/

namespace Sys2Proof.Machine

/-! ## Operations at a port run a row -/

/-- The transition rows: the operations a dispatch word selects. -/
def isRow (i : Instr) : Bool := decide ((encode i).1 = .dw)

/-- `RX_FRAME` that goes on has run a row, of this buffer. -/
theorem rxFrame_row {buf : List Byte} {s t : State} (h : rxFrame buf s = .next t) :
    ∃ j c, isRow j = true ∧ (encode j).2 = dwByte (roleNow s) (modeNow s) 5 c :: buf ∧ exec j s = .next t := by
  unfold rxFrame at h
  split at h
  · exact ⟨.rxInactive (roleNow s) (modeNow s) 0 buf, 0, rfl, rfl, h⟩
  · split at h
    · rename_i hr hm
      have e1 : roleNow s = 0#1 := by simp [roleNow, hr, roleBit]
      have e2 : modeNow s = 0#1 := by simp [modeNow, hm, modeBit]
      rw [e1, e2]
      unfold rxSws at h
      split at h
      · exact ⟨.swsRxReady 0 buf, 0, rfl, rfl, h⟩
      · split at h
        · exact ⟨.swsAckOk buf, 1, rfl, rfl, h⟩
        · exact ⟨.swsAckBad (classOf (dec s buf)) buf, _, rfl, rfl, h⟩
      all_goals cases h
    · rename_i hr hm
      have e1 : roleNow s = 0#1 := by simp [roleNow, hr, roleBit]
      have e2 : modeNow s = 1#1 := by simp [modeNow, hm, modeBit]
      rw [e1, e2]
      unfold rxGbs at h
      split at h
      · split at h
        · split at h
          · exact ⟨.gbsAck buf, 1, rfl, rfl, h⟩
          · exact ⟨.gbsAckStale buf, 1, rfl, rfl, h⟩
        · exact ⟨.gbsDiscard (classOf (dec s buf)) buf, _, rfl, rfl, h⟩
      all_goals cases h
    · rename_i hr hm
      have e1 : roleNow s = 1#1 := by simp [roleNow, hr, roleBit]
      have e2 : modeNow s = 0#1 := by simp [modeNow, hm, modeBit]
      rw [e1, e2]
      unfold rxSwr at h
      split at h
      · split at h
        · exact ⟨.swrCorrupt buf, 7, rfl, rfl, h⟩
        · split at h
          · exact ⟨.swrAckIgn buf, 1, rfl, rfl, h⟩
          · split at h
            · split at h
              · exact ⟨.swrDataOk buf, 0, rfl, rfl, h⟩
              · exact ⟨.swrDataDup buf, 0, rfl, rfl, h⟩
            · split at h
              · exact ⟨.swrFinOk buf, 2, rfl, rfl, h⟩
              · exact ⟨.swrFinDup buf, 2, rfl, rfl, h⟩
      · split at h
        · exact ⟨.swrCorrupt buf, 7, rfl, rfl, h⟩
        · split at h
          · exact ⟨.swrAckIgn buf, 1, rfl, rfl, h⟩
          · split at h
            · exact ⟨.swrClosedReack 0 buf, 0, rfl, rfl, h⟩
            · exact ⟨.swrClosedReack 1 buf, 2, rfl, rfl, h⟩
      all_goals cases h
    · rename_i hr hm
      have e1 : roleNow s = 1#1 := by simp [roleNow, hr, roleBit]
      have e2 : modeNow s = 1#1 := by simp [modeNow, hm, modeBit]
      rw [e1, e2]
      unfold rxGbr at h
      split at h
      · split at h
        · exact ⟨.gbrCorrupt buf, 7, rfl, rfl, h⟩
        · split at h
          · exact ⟨.gbrAckIgn buf, 1, rfl, rfl, h⟩
          · split at h
            · split at h
              · exact ⟨.gbrDataOk buf, 0, rfl, rfl, h⟩
              · exact ⟨.gbrDataOoo buf, 0, rfl, rfl, h⟩
            · split at h
              · exact ⟨.gbrFinOk buf, 2, rfl, rfl, h⟩
              · exact ⟨.gbrFinOoo buf, 2, rfl, rfl, h⟩
      · split at h
        · exact ⟨.gbrCorrupt buf, 7, rfl, rfl, h⟩
        · split at h
          · exact ⟨.gbrAckIgn buf, 1, rfl, rfl, h⟩
          · split at h
            · exact ⟨.gbrClosedReack 0 buf, 0, rfl, rfl, h⟩
            · exact ⟨.gbrClosedReack 1 buf, 2, rfl, rfl, h⟩
      all_goals cases h

/-- An operation at a port that goes on has run a transition row, or it is a reserved command. A command's row carries
the command's event code, so it is an `OPEN` exactly when the command is. -/
theorem exec_port_row {i : Instr} {s t : State} (hp : (encode i).1 = .frame ∨ (encode i).1 = .cmd)
    (h : exec i s = .next t) :
    (∃ j, isRow j = true ∧ exec j s = .next t ∧ (i = .cmdOpen ↔ ∃ w, (encode j).2.head? = some w ∧ dwEv w = 1)) ∨
    (∃ code, i = .cmdReserved code ∧ t = refuse .badCmd s) := by
  have frame : ∀ buf, rxFrame buf s = .next t → (i ≠ .cmdOpen) →
      ∃ j, isRow j = true ∧ exec j s = .next t ∧ (i = .cmdOpen ↔ ∃ w, (encode j).2.head? = some w ∧ dwEv w = 1) := by
    intro buf hb hi
    obtain ⟨j, c, h1, h2, h3⟩ := rxFrame_row hb
    refine ⟨j, h1, h3, ⟨fun e => absurd e hi, ?_⟩⟩
    rintro ⟨w, hw, hv⟩
    rw [h2] at hw
    simp only [List.head?_cons, Option.some.injEq] at hw
    subst hw
    simp at hv
  have row : ∀ j, isRow j = true → exec j s = .next t → (i = .cmdOpen ↔ ∃ w, (encode j).2.head? = some w ∧ dwEv w = 1) →
      ∃ j, isRow j = true ∧ exec j s = .next t ∧ (i = .cmdOpen ↔ ∃ w, (encode j).2.head? = some w ∧ dwEv w = 1) :=
    fun j h1 h2 h3 => ⟨j, h1, h2, h3⟩
  cases i
  case frameData a b c => exact .inl (frame _ h (by simp))
  case frameAck a c => exact .inl (frame _ h (by simp))
  case frameFin a c => exact .inl (frame _ h (by simp))
  case frameIllegal b => exact .inl (frame _ h (by simp))
  case cmdOpen =>
    left
    simp only [exec, execCmdOpen] at h
    split at h
    · exact row (.evOpenBadstate (roleNow s) (modeNow s)) rfl h (by simp [encode])
    · split at h
      · exact row (.evOpen (roleNow s) (modeNow s)) rfl h (by simp [encode])
      · exact row (.evOpenBadcfg (roleNow s) (modeNow s)) rfl h (by simp [encode])
  case cmdTxPush p =>
    left
    simp only [exec, execCmdTxPush] at h
    split at h
    · exact row (.txRefuse (roleNow s) (modeNow s) .push p) rfl h (by simp [encode, txEv])
    · split at h
      · exact row (.swsPush p) rfl h (by simp [encode])
      · exact row (.gbsPush p) rfl h (by simp [encode])
  case cmdTxClose =>
    left
    simp only [exec, execCmdTxClose] at h
    split at h
    · exact row (.txRefuse (roleNow s) (modeNow s) .close []) rfl h (by simp [encode, txEv])
    · split at h
      · exact row .swsClose rfl h (by simp [encode])
      · exact row .gbsClose rfl h (by simp [encode])
  case cmdAbort cause =>
    left
    simp only [exec, execCmdAbort] at h
    split at h
    · exact row (.evAbort (roleNow s) (modeNow s) cause) rfl h (by simp [encode])
    · exact row (.evAbortBadstate (roleNow s) (modeNow s) cause) rfl h (by simp [encode])
  case cmdReserved code =>
    right
    cases h
    exact ⟨code, rfl, rfl⟩
  all_goals simp [encode] at hp

/-! ## A row that goes on had its condition -/

/-- A row goes on only where its condition holds. -/
theorem enabled_of_next {i : Instr} {s t : State} (h : exec i s = .next t) : enabled i s = true := by
  cases i
  case swsAckBad c buf =>
    simp only [exec, execSwsAckBad] at h
    split at h
    · rename_i hc; exact hc
    · cases h
  case swsTimeout =>
    simp only [exec, execSwsTimeout] at h
    split at h
    · rename_i hc; exact hc
    · cases h
  all_goals first | rfl | exact (guarded_next h).1

/-! ## A step -/

/-- A step that goes on was a happening, or an operation run in the state its taking left. -/
theorem step_next {s t : State} (h : step s = .next t) :
    fetch s = .still t ∨
      ∃ f bs u i, fetch s = .word f bs u ∧ decodeIn u f bs = .ok i ∧ exec i u = .next t := by
  unfold step at h
  split at h
  · rename_i hf; cases h; exact .inl hf
  · rename_i f bs u hf
    split at h
    · rename_i i hi; exact .inr ⟨f, bs, u, i, hf, hi, h⟩
    · cases h

/-- Taking an event up changes the environment's queues only. -/
theorem fetchTaken_word {k : Taken} {s u : State} {f : Format} {bs : List Byte} (h : fetchTaken k s = .word f bs u) :
    u.hw = s.hw ∧ u.blk = s.blk ∧ u.env.agenda = s.env.agenda ∧ u.env.out = s.env.out := by
  unfold fetchTaken at h
  split at h
  · cases h; exact ⟨rfl, rfl, rfl, rfl⟩
  · cases h; exact ⟨rfl, rfl, rfl, rfl⟩
  · cases h; exact ⟨rfl, rfl, rfl, rfl⟩
  · cases h

/-- An endpoint that takes nothing up is unchanged. -/
theorem fetchTaken_still {k : Taken} {s t : State} (h : fetchTaken k s = .still t) : t = s := by
  unfold fetchTaken at h
  split at h
  · cases h
  · cases h
  · cases h
  · cases h; rfl

/-- Taking a word up changes neither the parameters nor the block nor the output. -/
theorem fetch_word {s u : State} {f : Format} {bs : List Byte} (h : fetch s = .word f bs u) :
    u.hw = s.hw ∧ u.blk = s.blk ∧ u.env.out = s.env.out ∧ (∀ m ∈ u.env.agenda, m ∈ s.env.agenda) := by
  unfold fetch at h
  split at h
  · obtain ⟨h1, h2, h3, h4⟩ := fetchTaken_word h
    exact ⟨h1, h2, h4, fun m hm => h3 ▸ hm⟩
  · rename_i m rest ha
    have sub : ∀ x ∈ rest, x ∈ s.env.agenda := fun x hx => ha ▸ List.mem_cons_of_mem m hx
    have taken : ∀ k, fetchTaken k { s with env := { s.env with agenda := rest } } = .word f bs u →
        u.hw = s.hw ∧ u.blk = s.blk ∧ u.env.out = s.env.out ∧ (∀ m ∈ u.env.agenda, m ∈ s.env.agenda) := fun k hk => by
      obtain ⟨h1, h2, h3, h4⟩ := fetchTaken_word hk
      exact ⟨h1, h2, h4, fun x hx => by rw [h3] at hx; exact sub x hx⟩
    cases m with
    | tick => cases h; exact ⟨rfl, rfl, rfl, sub⟩
    | serve => exact taken _ h
    | pick src => exact taken _ h
    | issue f' bs' => cases h; exact ⟨rfl, rfl, rfl, sub⟩
    | arrive _ => cases h
    | command _ => cases h
    | csrRead _ => cases h
    | csrWrite _ _ => cases h
    | reset => cases h

end Sys2Proof.Machine
end

