-- ==== Sys2Proof/Laws/PerInstr.lean ====
section
/-! SUPPORT. The family `Encoded`, one lemma per constructor of `Instr`: the word of a well-formed operation, standing
where that operation's words stand, is read back as it; the word of a transition row lists it among its rows, from which
a state's condition chooses (30_encoding R103). -/

namespace Sys2Proof.Laws

open Sys2Proof

/-! ## Frames, as their decoder reads them -/

/-- A buffer with a header, read by its flag. -/
theorem decodeFrameWord_header (s1 s0 f l1 l0 : Byte) (rest : List Byte) :
    decodeFrameWord (s1 :: s0 :: f :: l1 :: l0 :: rest) =
      if illegalHeader (s1 :: s0 :: f :: l1 :: l0 :: rest) then .frameIllegal (s1 :: s0 :: f :: l1 :: l0 :: rest)
      else if f = 0 then .frameData (be16 s1 s0) (be16 l1 l0) rest
      else if f = 1 then .frameAck (be16 s1 s0) rest
      else .frameFin (be16 s1 s0) rest := rfl

/-- A buffer with no legal header is the illegal frame. -/
theorem decodeFrameWord_illegal (buf : List Byte) (h : illegalHeader buf = true) :
    decodeFrameWord buf = .frameIllegal buf := by
  unfold decodeFrameWord
  split
  · rw [if_pos h]
  · rfl

/-! ## Rows of a dispatch word -/

/-- The class bits of CLOSED_REACK are those of DATA or of FIN. -/
theorem reackCls_cases (c : BitVec 1) : (c = 0 ∧ reackCls c = 0) ∨ (c = 1 ∧ reackCls c = 2) := by revert c; decide

/-- The rows an `RX_FRAME` word lists. -/
theorem dwRows_rx (r m : BitVec 1) (c : BitVec 3) (buf : List Byte) :
    dwRows (dwByte r m 5 c) buf = rxRows r m c buf := by simp [dwRows]

/-- The row for a buffer dropped undecoded stands under every class that occurs. -/
theorem rxInactive_mem (r m : BitVec 1) (c : BitVec 3) (buf : List Byte) (h : legalClass c = true) :
    Instr.rxInactive r m c buf ∈ rxRows r m c buf := by simp [rxRows, h]

/-! ## The family -/

/-- The word of `i` stands for `i`: alone, or as one of the rows its dispatch word lists. -/
def Encoded.Statement (i : Instr) : Prop :=
  i.wellFormed = true →
    match Sys2Proof.encode i with
    | (.dw, bs) => ∃ w ops, bs = w :: ops ∧ i ∈ dwRows w ops
    | (f, bs) => Sys2Proof.decode f bs = .ok i

theorem Encoded.frameData (seq len : Half) (rest : List Byte) : Statement (.frameData seq len rest) := by
  intro h
  have h2 : ¬ rest.length < 2 := Nat.not_lt.mpr (of_decide_eq_true h)
  simp [Sys2Proof.encode, Sys2Proof.decode, be16Bytes, decodeFrameWord_header, illegalHeader, h2]

theorem Encoded.frameAck (seq : Half) (rest : List Byte) : Statement (.frameAck seq rest) := by
  intro h
  have h2 : ¬ rest.length < 2 := Nat.not_lt.mpr (of_decide_eq_true h)
  simp [Sys2Proof.encode, Sys2Proof.decode, be16Bytes, decodeFrameWord_header, illegalHeader, h2]

theorem Encoded.frameFin (seq : Half) (rest : List Byte) : Statement (.frameFin seq rest) := by
  intro h
  have h2 : ¬ rest.length < 2 := Nat.not_lt.mpr (of_decide_eq_true h)
  simp [Sys2Proof.encode, Sys2Proof.decode, be16Bytes, decodeFrameWord_header, illegalHeader, h2]

theorem Encoded.frameIllegal (buf : List Byte) : Statement (.frameIllegal buf) := fun h =>
  congrArg Except.ok (decodeFrameWord_illegal buf h)

theorem Encoded.cmdOpen : Statement .cmdOpen := fun _ => rfl
theorem Encoded.cmdTxPush (p : List Byte) : Statement (.cmdTxPush p) := fun _ => rfl
theorem Encoded.cmdTxClose : Statement .cmdTxClose := fun _ => rfl
theorem Encoded.cmdAbort (cause : Byte) : Statement (.cmdAbort cause) := fun _ => rfl

theorem Encoded.cmdReserved (code : Byte) : Statement (.cmdReserved code) := by
  intro h
  have hc : code.toNat = 0 ∨ 4 < code.toNat := by simpa [Instr.wellFormed] using h
  have n : ∀ k : Byte, 0 < k.toNat → k.toNat ≤ 4 → code ≠ k := by rintro k h1 h2 rfl; omega
  simp [Sys2Proof.encode, Sys2Proof.decode, decodeCmdWord, n 1#8 (by decide) (by decide), n 2#8 (by decide) (by decide),
    n 3#8 (by decide) (by decide), n 4#8 (by decide) (by decide)]

theorem Encoded.csum16 (bytes : List Byte) : Statement (.csum16 bytes) := fun _ => rfl
theorem Encoded.csum16v (c : Half) (bytes : List Byte) : Statement (.csum16v c bytes) := by
  intro _; simp [Sys2Proof.encode, Sys2Proof.decode, decodeIcWord, be16Bytes]
theorem Encoded.crc16 (bytes : List Byte) : Statement (.crc16 bytes) := fun _ => rfl
theorem Encoded.crc16v (c : Half) (bytes : List Byte) : Statement (.crc16v c bytes) := by
  intro _; simp [Sys2Proof.encode, Sys2Proof.decode, decodeIcWord, be16Bytes]
theorem Encoded.encode (seq : Half) (flag : Byte) (p : List Byte) : Statement (.encode seq flag p) := by
  intro _; simp [Sys2Proof.encode, Sys2Proof.decode, decodeSfWord, be16Bytes]
theorem Encoded.decode (buf : List Byte) : Statement (.decode buf) := fun _ => rfl
theorem Encoded.tmTick : Statement .tmTick := fun _ => rfl
theorem Encoded.tmArm (target : ArmTarget) : Statement (.tmArm target) := by
  intro _
  cases target <;>
    simp [Sys2Proof.encode, Sys2Proof.decode, decodeTmWord, encodeArmTarget, decodeArmTarget, be16Bytes]
theorem Encoded.tmCancel (k : Half) : Statement (.tmCancel k) := by
  intro _; simp [Sys2Proof.encode, Sys2Proof.decode, decodeTmWord, be16Bytes]
theorem Encoded.tmCancelAll : Statement .tmCancelAll := fun _ => rfl
theorem Encoded.tmExpired : Statement .tmExpired := fun _ => rfl

theorem Encoded.evOpen (r m : BitVec 1) : Statement (.evOpen r m) := fun _ =>
  ⟨_, _, rfl, by simp [dwRows]⟩
theorem Encoded.evOpenBadcfg (r m : BitVec 1) : Statement (.evOpenBadcfg r m) := fun _ =>
  ⟨_, _, rfl, by simp [dwRows]⟩
theorem Encoded.evOpenBadstate (r m : BitVec 1) : Statement (.evOpenBadstate r m) := fun _ =>
  ⟨_, _, rfl, by simp [dwRows]⟩
theorem Encoded.evAbort (r m : BitVec 1) (cause : Byte) : Statement (.evAbort r m cause) := fun _ =>
  ⟨_, _, rfl, by simp [dwRows]⟩
theorem Encoded.evAbortBadstate (r m : BitVec 1) (cause : Byte) : Statement (.evAbortBadstate r m cause) := fun _ =>
  ⟨_, _, rfl, by simp [dwRows]⟩
theorem Encoded.txRefuse (r m : BitVec 1) (kind : TxKind) (p : List Byte) : Statement (.txRefuse r m kind p) := by
  intro h
  cases kind with
  | push => exact ⟨_, _, rfl, by simp [dwRows, txEv]⟩
  | close =>
    have hp : p = [] := by simpa [Instr.wellFormed] using h
    exact ⟨_, _, rfl, by simp [dwRows, txEv, hp]⟩
theorem Encoded.rxInactive (r m : BitVec 1) (c : BitVec 3) (buf : List Byte) : Statement (.rxInactive r m c buf) :=
  fun h => ⟨_, _, rfl, by rw [dwRows_rx]; exact rxInactive_mem r m c buf h⟩
theorem Encoded.evTick (r m : BitVec 1) : Statement (.evTick r m) := fun _ => ⟨_, _, rfl, by simp [dwRows]⟩

theorem Encoded.swsPush (p : List Byte) : Statement (.swsPush p) := fun _ => ⟨_, _, rfl, by simp [dwRows]⟩
theorem Encoded.swsClose : Statement .swsClose := fun _ => ⟨_, _, rfl, by simp [dwRows]⟩
theorem Encoded.swsAckOk (buf : List Byte) : Statement (.swsAckOk buf) := fun _ =>
  ⟨_, _, rfl, by rw [dwRows_rx]; simp [rxRows, legalClass]⟩
theorem Encoded.swsAckBad (c : BitVec 3) (buf : List Byte) : Statement (.swsAckBad c buf) := by
  intro h
  have hl : legalClass c = true := h
  exact ⟨_, _, rfl, by rw [dwRows_rx]; simp [rxRows, hl]⟩
theorem Encoded.swsTimeout : Statement .swsTimeout := fun _ => ⟨_, _, rfl, by simp [dwRows]⟩
theorem Encoded.swsRxReady (c : BitVec 3) (buf : List Byte) : Statement (.swsRxReady c buf) := by
  intro h
  have hl : legalClass c = true := h
  exact ⟨_, _, rfl, by rw [dwRows_rx]; simp [rxRows, hl]⟩

theorem Encoded.swrDataOk (buf : List Byte) : Statement (.swrDataOk buf) := fun _ =>
  ⟨_, _, rfl, by rw [dwRows_rx]; simp [rxRows, legalClass]⟩
theorem Encoded.swrDataDup (buf : List Byte) : Statement (.swrDataDup buf) := fun _ =>
  ⟨_, _, rfl, by rw [dwRows_rx]; simp [rxRows, legalClass]⟩
theorem Encoded.swrFinOk (buf : List Byte) : Statement (.swrFinOk buf) := fun _ =>
  ⟨_, _, rfl, by rw [dwRows_rx]; simp [rxRows, legalClass]⟩
theorem Encoded.swrFinDup (buf : List Byte) : Statement (.swrFinDup buf) := fun _ =>
  ⟨_, _, rfl, by rw [dwRows_rx]; simp [rxRows, legalClass]⟩
theorem Encoded.swrClosedReack (c : BitVec 1) (buf : List Byte) : Statement (.swrClosedReack c buf) := by
  intro _
  refine ⟨_, _, rfl, ?_⟩
  rw [dwRows_rx]
  rcases reackCls_cases c with ⟨rfl, h⟩ | ⟨rfl, h⟩ <;> rw [h] <;> simp [rxRows, legalClass]
theorem Encoded.swrCorrupt (buf : List Byte) : Statement (.swrCorrupt buf) := fun _ =>
  ⟨_, _, rfl, by rw [dwRows_rx]; simp [rxRows, legalClass]⟩
theorem Encoded.swrAckIgn (buf : List Byte) : Statement (.swrAckIgn buf) := fun _ =>
  ⟨_, _, rfl, by rw [dwRows_rx]; simp [rxRows, legalClass]⟩

theorem Encoded.gbsPush (p : List Byte) : Statement (.gbsPush p) := fun _ => ⟨_, _, rfl, by simp [dwRows]⟩
theorem Encoded.gbsClose : Statement .gbsClose := fun _ => ⟨_, _, rfl, by simp [dwRows]⟩
theorem Encoded.gbsAck (buf : List Byte) : Statement (.gbsAck buf) := fun _ =>
  ⟨_, _, rfl, by rw [dwRows_rx]; simp [rxRows, legalClass]⟩
theorem Encoded.gbsAckStale (buf : List Byte) : Statement (.gbsAckStale buf) := fun _ =>
  ⟨_, _, rfl, by rw [dwRows_rx]; simp [rxRows, legalClass]⟩
theorem Encoded.gbsDiscard (c : BitVec 3) (buf : List Byte) : Statement (.gbsDiscard c buf) := by
  intro h
  have hl : legalClass c = true ∧ c ≠ 1#3 := by simpa [Instr.wellFormed] using h
  exact ⟨_, _, rfl, by rw [dwRows_rx]; simp [rxRows, hl.1, hl.2]⟩
theorem Encoded.gbsTimeout : Statement .gbsTimeout := fun _ => ⟨_, _, rfl, by simp [dwRows]⟩

theorem Encoded.gbrDataOk (buf : List Byte) : Statement (.gbrDataOk buf) := fun _ =>
  ⟨_, _, rfl, by rw [dwRows_rx]; simp [rxRows, legalClass]⟩
theorem Encoded.gbrDataOoo (buf : List Byte) : Statement (.gbrDataOoo buf) := fun _ =>
  ⟨_, _, rfl, by rw [dwRows_rx]; simp [rxRows, legalClass]⟩
theorem Encoded.gbrFinOk (buf : List Byte) : Statement (.gbrFinOk buf) := fun _ =>
  ⟨_, _, rfl, by rw [dwRows_rx]; simp [rxRows, legalClass]⟩
theorem Encoded.gbrFinOoo (buf : List Byte) : Statement (.gbrFinOoo buf) := fun _ =>
  ⟨_, _, rfl, by rw [dwRows_rx]; simp [rxRows, legalClass]⟩
theorem Encoded.gbrClosedReack (c : BitVec 1) (buf : List Byte) : Statement (.gbrClosedReack c buf) := by
  intro _
  refine ⟨_, _, rfl, ?_⟩
  rw [dwRows_rx]
  rcases reackCls_cases c with ⟨rfl, h⟩ | ⟨rfl, h⟩ <;> rw [h] <;> simp [rxRows, legalClass]
theorem Encoded.gbrCorrupt (buf : List Byte) : Statement (.gbrCorrupt buf) := fun _ =>
  ⟨_, _, rfl, by rw [dwRows_rx]; simp [rxRows, legalClass]⟩
theorem Encoded.gbrAckIgn (buf : List Byte) : Statement (.gbrAckIgn buf) := fun _ =>
  ⟨_, _, rfl, by rw [dwRows_rx]; simp [rxRows, legalClass]⟩

end Sys2Proof.Laws
end

