-- ==== Sys2Proof/Tests/Slice0.lean ====
section
/-! SUPPORT. Tests of the model against words and values written out from the spec (95_test_vectors and the examples of
the rules), the refusals of WellFormed, and for each statement a state that meets its hypotheses. -/

namespace Sys2Proof.Tests

open Sys2Proof Sys2Proof.Machine Sys2Proof.Safety

/-! ## Small states -/

/-- A session as 95_test_vectors 3.3 to 3.6 use: checksum, `mss = 4`; in Go-Back-N `W = 3`, `M = 4`. -/
def ses (r : Role) (m : Mode) : Ses where
  role := r
  mode := m
  alg := .csum16
  mss := 4#16
  w := match m with
    | .sw => 1#16
    | .gbn => 3#16
  m := match m with
    | .sw => 2#17
    | .gbn => 4#17
  t := 9#32

/-- An endpoint of that session in control state `c`. -/
def ep (r : Role) (m : Mode) (c : Ctl) : State :=
  { State.reset with blk := { resetBlock with ses := ses r m, st := c } }

/-- DATA(0, "A"), 95_test_vectors 3.3. -/
def dataA : List Byte := [0x00, 0x00, 0x00, 0x00, 0x01, 0x41, 0xFE, 0xBE]
/-- DATA(1, "B"), 95_test_vectors 3.4. -/
def dataB : List Byte := [0x00, 0x01, 0x00, 0x00, 0x01, 0x42, 0xFE, 0xBC]
/-- ACK(0), 95_test_vectors 2.2. -/
def ack0 : List Byte := [0x00, 0x00, 0x01, 0x00, 0x00, 0xFE, 0xFF]
/-- ACK(1), 95_test_vectors 2.2. -/
def ack1 : List Byte := [0x00, 0x01, 0x01, 0x00, 0x00, 0xFE, 0xFE]
/-- ACK(3), 95_test_vectors 2.2. -/
def ack3 : List Byte := [0x00, 0x03, 0x01, 0x00, 0x00, 0xFE, 0xFC]
/-- FIN(0), 95_test_vectors 2.2. -/
def fin0 : List Byte := [0x00, 0x00, 0x02, 0x00, 0x00, 0xFD, 0xFF]
/-- FIN(1), 95_test_vectors 2.2. -/
def fin1 : List Byte := [0x00, 0x01, 0x02, 0x00, 0x00, 0xFD, 0xFE]
/-- A buffer too short for a frame, 95_test_vectors 3.3 step 6. -/
def short : List Byte := [0x01, 0x02, 0x03]

/-- A stop-and-wait sender that awaits the acknowledgment of `dataA`, its timer at 107 (95_test_vectors 3.3). -/
def awaiting : State :=
  { State.reset with blk := { resetBlock with
      ses := ses .sender .sw, st := .awaitingAck, now := 100#32
      rtx := [{ seq := 0#16, frame := dataA, deadline := 107#32 }] } }

/-- A Go-Back-N sender with `dataA` and `dataB` outstanding (95_test_vectors 3.5). -/
def window : State :=
  { State.reset with blk := { resetBlock with
      ses := ses .sender .gbn, st := .ready, nxt := 2#16, now := 2#32
      rtx := [{ seq := 0#16, frame := dataA, deadline := 9#32 }, { seq := 1#16, frame := dataB, deadline := 10#32 }] } }

/-- The same state at another time. -/
def atTime (n : BitVec 32) (s : State) : State := { s with blk := { s.blk with now := n } }

/-- The block after an outcome that goes on. -/
def blkOf : Out → Option Block
  | .next t => some t.blk
  | .fault _ => none
  | .refused _ => none

/-- Why an outcome is stuck. -/
def faultOf : Out → Option Fault
  | .next _ => none
  | .fault r => some r
  | .refused _ => none

/-- What an outcome that goes on has put out. -/
def outOf : Out → Option (List Effect)
  | .next t => some t.env.out
  | .fault _ => none
  | .refused _ => none

/-- The unit result of an outcome that goes on. -/
def unitOf : Out → Option UnitResult
  | .next t => some t.env.unitOut
  | .fault _ => none
  | .refused _ => none

/-! ## WellFormed refuses an ill-formed term of each kind -/

theorem test_wf_data_without_trailer : (Instr.frameData 0 0 [0x00]).wellFormed = false := by decide
theorem test_wf_ack_without_trailer : (Instr.frameAck 0 [0x00]).wellFormed = false := by decide
theorem test_wf_fin_without_trailer : (Instr.frameFin 0 []).wellFormed = false := by decide
theorem test_wf_illegal_frame_with_legal_header : (Instr.frameIllegal ack0).wellFormed = false := by decide
theorem test_wf_assigned_code_as_reserved :
    [0x01, 0x02, 0x03, 0x04].map (fun c : Byte => (Instr.cmdReserved c).wellFormed) = [false, false, false, false] := by
  decide
theorem test_wf_refused_close_with_payload : (Instr.txRefuse 0 0 .close [0x00]).wellFormed = false := by decide
theorem test_wf_inactive_with_class_3 : (Instr.rxInactive 0 0 3 []).wellFormed = false := by decide
theorem test_wf_ack_bad_with_class_4 : (Instr.swsAckBad 4 []).wellFormed = false := by decide
theorem test_wf_rx_ready_with_class_5 : (Instr.swsRxReady 5 []).wellFormed = false := by decide
theorem test_wf_discard_with_class_6 : (Instr.gbsDiscard 6 []).wellFormed = false := by decide
theorem test_wf_discard_of_an_ack : (Instr.gbsDiscard 1 []).wellFormed = false := by decide

/-! ## Every constructor's word, written out from 30_encoding -/

/-- R96 to R99. -/
theorem test_decode_frames :
    decode .frame dataA = .ok (.frameData 0 1 [0x41, 0xFE, 0xBE])
    ∧ decode .frame ack1 = .ok (.frameAck 1 [0xFE, 0xFE])
    ∧ decode .frame fin0 = .ok (.frameFin 0 [0xFD, 0xFF])
    ∧ decode .frame short = .ok (.frameIllegal short)
    ∧ decode .frame [0x00, 0x00, 0xFF, 0x00, 0x00, 0x00, 0xFF]
      = .ok (.frameIllegal [0x00, 0x00, 0xFF, 0x00, 0x00, 0x00, 0xFF])
    ∧ decode .frame [0x00, 0x00, 0x01, 0x00, 0x01, 0x55, 0xFD, 0xAA]
      = .ok (.frameIllegal [0x00, 0x00, 0x01, 0x00, 0x01, 0x55, 0xFD, 0xAA]) := by decide

/-- R101. -/
theorem test_decode_commands :
    decode .cmd [0x01] = .ok .cmdOpen
    ∧ decode .cmd [0x02, 0x68, 0x69] = .ok (.cmdTxPush [0x68, 0x69])
    ∧ decode .cmd [0x03] = .ok .cmdTxClose
    ∧ decode .cmd [0x04, 0x02] = .ok (.cmdAbort 2)
    ∧ decode .cmd [0x07] = .ok (.cmdReserved 7)
    ∧ decode .cmd [0x01, 0x00] = .error .badOperand
    ∧ decode .cmd [] = .error .emptyWord := by decide

/-- R104: IC `alg ‖ op`, SF, TM. -/
theorem test_decode_unit_selects :
    decode .ic [0x00, 0x61] = .ok (.csum16 [0x61])
    ∧ decode .ic [0x01, 0x3B, 0x9D, 0x61] = .ok (.csum16v 0x3B9D [0x61])
    ∧ decode .ic [0x02, 0x61] = .ok (.crc16 [0x61])
    ∧ decode .ic [0x03, 0x51, 0x4A, 0x61] = .ok (.crc16v 0x514A [0x61])
    ∧ decode .sf [0x00, 0x01, 0x02, 0x02] = .ok (.encode 0x0102 2 [])
    ∧ decode .sf [0x01, 0x61] = .ok (.decode [0x61])
    ∧ decode .tm [0x00] = .ok .tmTick
    ∧ decode .tm [0x01, 0x01, 0x00, 0x01] = .ok (.tmArm (.queued 1))
    ∧ decode .tm [0x01, 0x00, 0x00, 0x01, 0x61] = .ok (.tmArm (.fresh 1 [0x61]))
    ∧ decode .tm [0x02, 0x00, 0x02] = .ok (.tmCancel 2)
    ∧ decode .tm [0x03] = .ok .tmCancelAll
    ∧ decode .tm [0x04] = .ok .tmExpired
    ∧ [0x05, 0x06, 0x07].map (fun b : Byte => decide (decode .tm [b] = .error .reservedSelect)) = [true, true, true] := by
  decide

/-- R103, host commands and TICK: `role ‖ mode ‖ ev ‖ cls`, `--001000` and so on. -/
theorem test_decode_session_rows :
    dwRows 0b10001000 [] = [.evOpen 1 0, .evOpenBadcfg 1 0, .evOpenBadstate 1 0]
    ∧ dwRows 0b11100000 [0x02] = [.evAbort 1 1 2, .evAbortBadstate 1 1 2]
    ∧ dwRows 0b10010000 [0x61] = [.txRefuse 1 0 .push [0x61]]
    ∧ dwRows 0b11011000 [] = [.txRefuse 1 1 .close []]
    ∧ dwRows 0b01111000 [] = [.evTick 0 1]
    ∧ dwRows 0b10101011 [] = []
    ∧ dwRows 0b10110000 [] = [] := by decide

/-- R103, the stop-and-wait sender: `00 ev cls`. -/
theorem test_decode_sws_rows :
    dwRows 0b00010000 [0x61] = [.swsPush [0x61], .txRefuse 0 0 .push [0x61]]
    ∧ dwRows 0b00011000 [] = [.swsClose, .txRefuse 0 0 .close []]
    ∧ dwRows 0b00101001 ack0 = [.swsAckOk ack0, .swsAckBad 1 ack0, .swsRxReady 1 ack0, .rxInactive 0 0 1 ack0]
    ∧ dwRows 0b00101111 short = [.swsAckBad 7 short, .swsRxReady 7 short, .rxInactive 0 0 7 short]
    ∧ dwRows 0b00110000 [] = [.swsTimeout] := by decide

/-- R103, the stop-and-wait receiver: `10 101 cls`. -/
theorem test_decode_swr_rows :
    dwRows 0b10101000 dataA = [.swrDataOk dataA, .swrDataDup dataA, .swrClosedReack 0 dataA, .rxInactive 1 0 0 dataA]
    ∧ dwRows 0b10101010 fin0 = [.swrFinOk fin0, .swrFinDup fin0, .swrClosedReack 1 fin0, .rxInactive 1 0 2 fin0]
    ∧ dwRows 0b10101111 short = [.swrCorrupt short, .rxInactive 1 0 7 short]
    ∧ dwRows 0b10101001 ack0 = [.swrAckIgn ack0, .rxInactive 1 0 1 ack0] := by decide

/-- R103, the Go-Back-N sender: `01 ev cls`. -/
theorem test_decode_gbs_rows :
    dwRows 0b01010000 [0x61] = [.gbsPush [0x61], .txRefuse 0 1 .push [0x61]]
    ∧ dwRows 0b01011000 [] = [.gbsClose, .txRefuse 0 1 .close []]
    ∧ dwRows 0b01101001 ack0 = [.gbsAck ack0, .gbsAckStale ack0, .rxInactive 0 1 1 ack0]
    ∧ dwRows 0b01101111 short = [.gbsDiscard 7 short, .rxInactive 0 1 7 short]
    ∧ dwRows 0b01110000 [] = [.gbsTimeout] := by decide

/-- R103, the Go-Back-N receiver: `11 101 cls`. -/
theorem test_decode_gbr_rows :
    dwRows 0b11101000 dataA = [.gbrDataOk dataA, .gbrDataOoo dataA, .gbrClosedReack 0 dataA, .rxInactive 1 1 0 dataA]
    ∧ dwRows 0b11101010 fin0 = [.gbrFinOk fin0, .gbrFinOoo fin0, .gbrClosedReack 1 fin0, .rxInactive 1 1 2 fin0]
    ∧ dwRows 0b11101111 short = [.gbrCorrupt short, .rxInactive 1 1 7 short]
    ∧ dwRows 0b11101001 ack0 = [.gbrAckIgn ack0, .rxInactive 1 1 1 ack0] := by decide

/-- The opcode table's numbering: a frame header of 40 bits, a command code, a dispatch word, unit selects. -/
theorem test_decode_table_words :
    decodeTableWord 40 0x0000010000 = some (.frameAck 0 [0, 0])
    ∧ decodeTableWord 40 0x0001020000 = some (.frameFin 1 [0, 0])
    ∧ decodeTableWord 8 0x01 = some .cmdOpen
    ∧ decodeTableWord 8 0x70 = some .gbsTimeout
    ∧ decodeTableWord 2 0b10 = some (.crc16 [])
    ∧ decodeTableWord 1 1 = some (.decode [])
    ∧ decodeTableWord 3 0b100 = some .tmExpired := by decide

/-- A table word issued first is what the next step runs. -/
theorem test_fetch_word_runs :
    blkOf (step (State.reset.withFetchWord 3 0)) = some { resetBlock with now := 1#32 }
    ∧ blkOf (step (State.reset.withFetchWord 8 0x78)) = some { resetBlock with now := 1#32 } := by decide

/-! ## Frames at a port (30_encoding R96 to R99) -/

/-- 95_test_vectors 3.5, DATA(0, "a") at a receiver that expects it. -/
theorem test_frame_data_delivers :
    outOf (exec (.frameData 0 1 [0x61, 0xFE, 0x9E]) (ep .receiver .gbn .listen))
      = some [.deliver [0x61], .emit ack0] := by decide
/-- 95_test_vectors 3.3 step 7. -/
theorem test_frame_ack_frees_the_sender :
    (blkOf (exec (.frameAck 0 [0xFE, 0xFF]) awaiting)).map (fun k => (k.st, k.b, k.rtx)) = some (.ready, 1, []) := by
  decide
/-- 95_test_vectors 3.6 step 5. -/
theorem test_frame_fin_closes :
    (blkOf (exec (.frameFin 0 [0xFD, 0xFF]) (ep .receiver .gbn .listen))).map (fun k => (k.st, k.eos, k.expected))
      = some (.closed, true, 1) := by decide
/-- 95_test_vectors 2.2: `00 00 03 00 00 FC FF` is CorruptFrame(FLAG). -/
theorem test_frame_illegal_is_corrupt :
    (blkOf (exec (.frameIllegal [0x00, 0x00, 0x03, 0x00, 0x00, 0xFC, 0xFF]) (ep .receiver .sw .listen))).map
      (fun k => (k.lastCause, k.corruptSeen)) = some (.corruptFrame .flag, true) := by decide

/-! ## Commands and session control (95_test_vectors 3.1, 3.2) -/

/-- An endpoint at reset with these registers. -/
def configured (r : Role) (m : Mode) (mss w : Half) (seqmod : BitVec 17) (t : BitVec 32) : State :=
  { State.reset with blk := { resetBlock with
      cfg := { role := r, mode := m, alg := .csum16, mss := mss, w := w, seqmod := seqmod, timeout := t } } }

theorem test_open_after_reset_is_refused :
    (blkOf (exec .cmdOpen .reset)).map (fun k => (k.st, k.cmdErr)) = some (.idle, .badCfg) := by decide
theorem test_open_stop_and_wait_forces_window_and_modulus :
    (blkOf (exec .cmdOpen (configured .sender .sw 4 7 0 1))).map (fun k => (k.st, k.ses.w, k.ses.m))
      = some (.ready, 1, 2) := by decide
theorem test_open_receiver_ignores_timeout :
    (blkOf (exec (.evOpen 0 0) (configured .receiver .sw 1 0 0 0))).map (fun k => k.st) = some .listen := by decide
theorem test_open_smallest_space :
    (blkOf (exec (.evOpen 0 0) (configured .sender .gbn 4 4 5 1))).map (fun k => k.st) = some .ready := by decide
theorem test_open_space_not_above_window :
    (blkOf (exec (.evOpenBadcfg 0 0) (configured .sender .gbn 4 4 4 1))).map (fun k => k.cmdErr) = some .badCfg := by
  decide
theorem test_open_space_too_large :
    (blkOf (exec (.evOpenBadcfg 1 1) (configured .receiver .gbn 4 4 65537 0))).map (fun k => k.cmdErr)
      = some .badCfg := by decide
theorem test_open_while_active :
    (blkOf (exec (.evOpenBadstate 0 0) awaiting)).map (fun k => (k.st, k.cmdErr)) = some (.awaitingAck, .badState) := by
  decide
/-- 95_test_vectors P4 step 8. -/
theorem test_abort_tears_down :
    (blkOf (exec (.cmdAbort 2) window)).map (fun k => (k.st, k.rtx, k.abortCause, k.lastCause, k.nxt))
      = some (.aborted, [], 2, .sessionAborted, 2) := by decide
theorem test_abort_of_a_closed_receiver :
    (blkOf (exec (.evAbort 1 0 0) (ep .receiver .sw .closed))).map (fun k => k.st) = some .aborted := by decide
theorem test_abort_twice_keeps_the_first_cause :
    (blkOf (exec (.evAbortBadstate 0 0 0)
      { State.reset with blk := { resetBlock with st := .aborted, abortCause := 2 } })).map
      (fun k => (k.abortCause, k.cmdErr)) = some (2, .badState) := by decide
theorem test_reserved_command :
    blkOf (exec (.cmdReserved 7) awaiting) = some { awaiting.blk with cmdErr := .badCmd } := by decide
theorem test_push_too_long_before_busy :
    (blkOf (exec (.cmdTxPush [0x31, 0x32, 0x33, 0x34, 0x35]) awaiting)).map (fun k => k.cmdErr) = some .badLen := by
  decide
theorem test_close_while_awaiting :
    (blkOf (exec .cmdTxClose awaiting)).map (fun k => (k.cmdErr, k.fin)) = some (.busy, false) := by decide
theorem test_push_at_a_receiver :
    (blkOf (exec (.txRefuse 1 0 .push [0x41]) (ep .receiver .sw .listen))).map (fun k => k.cmdErr)
      = some .badState := by decide
theorem test_push_busy : (blkOf (exec (.txRefuse 0 0 .push [0x78]) awaiting)).map (fun k => k.cmdErr) = some .busy := by
  decide
/-- 95_test_vectors P4 step 10. -/
theorem test_inactive_drops :
    blkOf (exec (.rxInactive 0 1 1 ack1) (ep .sender .gbn .aborted)) = some (ep .sender .gbn .aborted).blk := by decide

/-! ## Integrity codec (95_test_vectors 2.1) -/

theorem test_csum16_odd_length :
    unitOf (exec (.csum16 [0x61, 0x62, 0x63]) .reset) = some (.value 0x3B9D) := by decide
theorem test_csum16_two_carries :
    unitOf (exec (.csum16 [0x00, 0x01, 0xF2, 0x03, 0xF4, 0xF5, 0xF6, 0xF7]) .reset) = some (.value 0x220D) := by decide
theorem test_csum16v_second_zero :
    unitOf (exec (.csum16v 0xFFFF [0xFF, 0xFF]) .reset) = some (.bool true) := by decide
theorem test_csum16v_rejects : unitOf (exec (.csum16v 0x3B9C [0x61, 0x62, 0x63]) .reset) = some (.bool false) := by
  decide
theorem test_crc16_check_value :
    unitOf (exec (.crc16 [0x31, 0x32, 0x33, 0x34, 0x35, 0x36, 0x37, 0x38, 0x39]) .reset) = some (.value 0x29B1) := by
  decide +kernel
theorem test_crc16_zero_byte : unitOf (exec (.crc16 [0x00]) .reset) = some (.value 0xE1F0) := by decide +kernel
theorem test_crc16v_accepts : unitOf (exec (.crc16v 0x514A [0x61, 0x62, 0x63]) .reset) = some (.bool true) := by decide +kernel
theorem test_crc16v_rejects : unitOf (exec (.crc16v 0x514B [0x61, 0x62, 0x63]) .reset) = some (.bool false) := by decide +kernel

/-! ## Segment framer (95_test_vectors 2.2) -/

theorem test_encode_abc :
    unitOf (exec (.encode 0 0 [0x61, 0x62, 0x63]) (ep .sender .sw .ready))
      = some (.frame [0x00, 0x00, 0x00, 0x00, 0x03, 0x61, 0x62, 0x63, 0x9A, 0x3B]) := by decide
/-- The CRC trailer of ACK(2), `CB 54`. -/
theorem test_encode_crc_ack :
    mkAck { ses .receiver .gbn with alg := .crc16 } 2 = [0x00, 0x02, 0x01, 0x00, 0x00, 0xCB, 0x54] := by decide +kernel
theorem test_decode_segment :
    unitOf (exec (.decode [0x00, 0x00, 0x00, 0x00, 0x03, 0x61, 0x62, 0x63, 0x9A, 0x3B]) (ep .receiver .sw .listen))
      = some (.segment 0 0 [0x61, 0x62, 0x63]) := by decide
/-- Truncated; all zero; a wrong length; flag 3; a sequence number outside the modulus; an ACK with a payload. -/
theorem test_decode_sub_causes :
    [[0x00, 0x00, 0x00, 0x00, 0x03, 0x61], [0x00, 0x00, 0x00, 0x00, 0x00, 0x00, 0x00],
      [0x00, 0x00, 0x00, 0x00, 0x04, 0x61, 0x62, 0x63, 0x99, 0x3B], [0x00, 0x00, 0x03, 0x00, 0x00, 0xFC, 0xFF],
      [0x00, 0x02, 0x01, 0x00, 0x00, 0xFE, 0xFD], [0x00, 0x00, 0x01, 0x00, 0x01, 0x55, 0xFD, 0xAA]].map
      (decodeSeg (ses .receiver .sw))
    = [.corrupt .truncated, .corrupt .integrity, .corrupt .length, .corrupt .flag, .corrupt .seq,
      .corrupt .length] := by decide

/-! ## Timeout manager (95_test_vectors 2.3) -/

theorem test_tick_wraps : (blkOf (exec .tmTick (atTime 0xFFFFFFFF window))).map (fun k => k.now) = some 0 := by decide
theorem test_tick_event : (blkOf (exec (.evTick 0 1) window)).map (fun k => k.now) = some 3 := by decide
theorem test_arm_across_the_wrap :
    (blkOf (exec (.tmArm (.queued 1)) (atTime 0xFFFFFFFE window))).map (fun k => k.rtx.map Entry.deadline)
      = some [9, 7] := by decide
theorem test_arm_a_new_entry :
    unitOf (exec (.tmArm (.fresh 1 dataB)) window) = some (.entry { seq := 1, frame := dataB, deadline := 11 }) := by
  decide
theorem test_cancel_the_oldest :
    (blkOf (exec (.tmCancel 1) window)).map (fun k => k.rtx.map Entry.seq) = some [1] := by decide
/-- Out of range, after reset: it goes on all the same (log 10). -/
theorem test_cancel_of_nothing : (blkOf (exec (.tmCancel 0) State.reset)).map (fun k => k.st) = some .idle := rfl
theorem test_cancel_all : (blkOf (exec .tmCancelAll window)).map (fun k => k.rtx) = some [] := by decide
theorem test_expired_at_the_deadline : unitOf (exec .tmExpired (atTime 9 window)) = some (.bool true) := by decide
theorem test_expired_one_tick_early : unitOf (exec .tmExpired (atTime 8 window)) = some (.bool false) := by decide
/-- The table of `expired`: across the wrap, the last tick inside the service bound, the first outside it. -/
theorem test_expired_table :
    [expired 0x00000000 0xFFFFFFFF, expired 0xFFFFFFFF 0x00000001, expired 0x7FFFFFFF 0, expired 0x80000000 0]
      = [true, false, true, false] := by decide

/-! ## Stop-and-wait (95_test_vectors 3.3, 3.4) -/

theorem test_sws_push :
    blkOf (exec (.swsPush [0x41]) (atTime 98 (ep .sender .sw .ready))) = some { (atTime 98 awaiting).blk with rtx :=
      [{ seq := 0, frame := dataA, deadline := 107 }] } := by decide
theorem test_sws_close_emits_fin :
    outOf (exec .swsClose (ep .sender .sw .ready)) = some [.emit fin0] := by decide
theorem test_sws_ack_ok_finishes :
    (blkOf (exec (.swsAckOk ack0) { awaiting with blk := { awaiting.blk with fin := true } })).map (fun k => (k.st, k.b))
      = some (.done, 1) := by decide
/-- Step 3: ACK(1) at `b = 0`, two ticks later. -/
theorem test_sws_stale_ack_resends :
    (blkOf (exec (.swsAckBad 1 ack1) (atTime 102 awaiting))).map
      (fun k => (k.rtx.map Entry.deadline, k.lastCause, k.retxSeen)) = some ([111], .staleAck, true) := by decide
/-- Step 6: a truncated buffer. -/
theorem test_sws_corrupt_resends :
    outOf (exec (.swsAckBad 7 short) awaiting) = some [.emit dataA]
    ∧ (blkOf (exec (.swsAckBad 7 short) awaiting)).map (fun k => (k.lastCause, k.corruptSeen))
      = some (.corruptFrame .truncated, true) := by decide
theorem test_sws_timeout :
    (blkOf (exec .swsTimeout (atTime 107 awaiting))).map (fun k => (k.rtx.map Entry.deadline, k.lastCause))
      = some ([116], .timeout) := by decide
theorem test_sws_timeout_not_yet : faultOf (exec .swsTimeout (atTime 106 awaiting)) = some .conditionFalse := by decide
/-- Step 1. -/
theorem test_sws_ready_drops :
    blkOf (exec (.swsRxReady 1 ack0) (ep .sender .sw .ready)) = some (ep .sender .sw .ready).blk := by decide
/-- 44_stop_and_wait R211, the example. -/
theorem test_swr_data_ok :
    outOf (exec (.swrDataOk [0x00, 0x00, 0x00, 0x00, 0x02, 0x61, 0x62, 0x9B, 0x9E]) (ep .receiver .sw .listen))
      = some [.deliver [0x61, 0x62], .emit ack0] := by decide
/-- Step 1: DATA(1) where 0 is expected. -/
theorem test_swr_data_dup :
    outOf (exec (.swrDataDup dataB) (ep .receiver .sw .listen)) = some [.emit ack1] := by decide
theorem test_swr_fin_ok :
    (blkOf (exec (.swrFinOk fin0) (ep .receiver .sw .listen))).map (fun k => (k.st, k.expected, k.eos))
      = some (.closed, 1, true) := by decide
/-- Step 2. -/
theorem test_swr_fin_dup :
    outOf (exec (.swrFinDup fin1) (ep .receiver .sw .listen)) = some [.emit ack1] := by decide
/-- Step 6: DATA(0) after the close, though it equals `expected`. -/
theorem test_swr_closed_reack :
    outOf (exec (.swrClosedReack 0 dataA) (ep .receiver .sw .closed)) = some [.emit ack1] := by decide
theorem test_swr_corrupt :
    (blkOf (exec (.swrCorrupt [0x00, 0x00, 0x00, 0x00, 0x00, 0x00, 0x00]) (ep .receiver .sw .closed))).map
      (fun k => k.lastCause) = some (.corruptFrame .integrity) := by decide
theorem test_swr_ack_ign :
    (blkOf (exec (.swrAckIgn ack0) (ep .receiver .sw .listen))).map (fun k => k.lastCause) = some .unexpected := by
  decide

/-! ## Go-Back-N (95_test_vectors 3.5, 3.6) -/

theorem test_gbs_push :
    (blkOf (exec (.gbsPush [0x63]) window)).map (fun k => (k.nxt, k.rtx.map Entry.deadline)) = some (3, [9, 10, 11]) := by
  decide
theorem test_gbs_close_stays_ready :
    (blkOf (exec .gbsClose window)).map (fun k => (k.nxt, k.fin, k.st)) = some (3, true, .ready) := by decide
/-- Step 6: ACK(1) retires two. -/
theorem test_gbs_ack_cumulative :
    (blkOf (exec (.gbsAck ack1) window)).map (fun k => (k.base, k.rtx)) = some (2, []) := by decide
/-- The survivor keeps its deadline (45_go_back_n R239). -/
theorem test_gbs_ack_keeps_deadlines :
    (blkOf (exec (.gbsAck ack0) window)).map (fun k => k.rtx.map Entry.deadline) = some [10] := by decide
theorem test_gbs_ack_stale :
    (blkOf (exec (.gbsAckStale ack3) window)).map (fun k => (k.lastCause, k.base)) = some (.staleAck, 0) := by decide
/-- Step 10: ACK(4) with `M = 4`. -/
theorem test_gbs_discard_corrupt :
    (blkOf (exec (.gbsDiscard 7 [0x00, 0x04, 0x01, 0x00, 0x00, 0xFE, 0xFB]) window)).map (fun k => k.lastCause)
      = some (.corruptFrame .seq) := by decide
theorem test_gbs_discard_data :
    outOf (exec (.gbsDiscard 0 dataA) window) = some [] := by decide
theorem test_gbs_timeout_resends_in_order :
    outOf (exec .gbsTimeout (atTime 9 window)) = some [.emit dataA, .emit dataB] := by decide
theorem test_gbs_timeout_one_deadline :
    (blkOf (exec .gbsTimeout (atTime 9 window))).map (fun k => k.rtx.map Entry.deadline) = some [18, 18] := by decide
theorem test_gbr_data_ok :
    (blkOf (exec (.gbrDataOk dataA) (ep .receiver .gbn .listen))).map (fun k => k.expected) = some 1 := by decide
/-- `expected − 1` with nothing accepted is `M − 1`. -/
theorem test_gbr_data_ooo :
    outOf (exec (.gbrDataOoo dataB) (ep .receiver .gbn .listen)) = some [.emit ack3] := by decide
theorem test_gbr_fin_ok :
    outOf (exec (.gbrFinOk fin0) (ep .receiver .gbn .listen)) = some [.signalEos, .emit ack0] := by decide
/-- Step 1. -/
theorem test_gbr_fin_ooo :
    (blkOf (exec (.gbrFinOoo [0x00, 0x02, 0x02, 0x00, 0x00, 0xFD, 0xFD]) (ep .receiver .gbn .listen))).map
      (fun k => (k.lastCause, k.oooSeen, k.st)) = some (.outOfOrder, true, .listen) := by decide
theorem test_gbr_closed_reack :
    outOf (exec (.gbrClosedReack 1 fin0)
      { State.reset with blk := { resetBlock with ses := ses .receiver .gbn, st := .closed, expected := 1 } })
      = some [.emit ack0] := by decide
theorem test_gbr_corrupt :
    (blkOf (exec (.gbrCorrupt short) (ep .receiver .gbn .listen))).map (fun k => k.lastCause)
      = some (.corruptFrame .truncated) := by decide
theorem test_gbr_ack_ign :
    (blkOf (exec (.gbrAckIgn ack0) (ep .receiver .gbn .closed))).map (fun k => k.lastCause) = some .unexpected := by
  decide

/-! ## Registers (10_state R42, R43) -/

/-- The end of 95_test_vectors P4: `STATUS = 0x40022406` after step 12. -/
theorem test_status_word :
    csrValue 7 { State.reset with blk := { resetBlock with
      st := .aborted, retxSeen := true, cmdErr := .badState, abortCause := 2, lastCause := .sessionAborted } }
      = 0x40022406 := by decide
/-- `STATUS = 0x00000009` after step 13: `tx_ready` is bit 3. -/
theorem test_status_tx_ready : csrValue 7 (ep .sender .gbn .ready) = 0x00000009 := by decide
/-- A write keeps the low bits (10_state, section 2). -/
theorem test_csr_write_keeps_low_bits : (cfgAfterWrite 5 0xFFFE0003 resetBlock.cfg).seqmod = 3 := by decide

/-! ## The invariant at four states -/

theorem dataA_ok (m : Mode) (d : BitVec 32) : EntryOk (ses .sender m) { seq := 0, frame := dataA, deadline := d } := by
  refine ⟨flagData, [0x41], .inl rfl, ?_, ?_⟩
  · show encodePre (ses .sender m) 0 flagData [0x41] = true
    cases m <;> decide
  · show dataA = frameBytes .csum16 0 flagData [0x41]
    decide

theorem dataB_ok (d : BitVec 32) : EntryOk (ses .sender .gbn) { seq := 1, frame := dataB, deadline := d } :=
  ⟨flagData, [0x42], .inl rfl,
    show encodePre (ses .sender .gbn) 1 flagData [0x42] = true by decide,
    show dataB = frameBytes .csum16 1 flagData [0x42] by decide⟩

theorem ses_legal (r : Role) (m : Mode) : SesLegal State.reset.hw (ses r m) := by
  constructor <;> cases r <;> cases m <;> decide

/-- The window invariant does not depend on the time. -/
theorem window_inv_at (n : BitVec 32) : BlockInv (atTime n window).hw (atTime n window).blk where
  ses _ := ses_legal .sender .gbn
  role := ⟨fun _ => rfl, fun h => h.elim (fun h => by cases h) (fun h => by cases h), fun h => by cases h⟩
  quiet h := absurd rfl h
  entries e h := by
    simp only [atTime, window, List.mem_cons, List.not_mem_nil, or_false] at h
    rcases h with rfl | rfl
    · exact dataA_ok .gbn 9
    · exact dataB_ok 10
  done h := by cases h
  sws _ h := by cases h
  gbs _ _ := {
    count := fun _ => show 2 = seqDist 2#16 0#16 4#17 by decide
    window := fun _ => show 2 ≤ (3#16).toNat by decide
    numbers := fun _ i e h => by
      match i, h with
      | 0, h => cases h; rfl
      | 1, h => cases h; rfl
      | n + 2, h => simp [atTime, window] at h
    ranges := fun _ => show (0#16).toNat < (4#17).toNat ∧ (2#16).toNat < (4#17).toNat by decide
    fin := fun _ h => by cases h
    unused := rfl }
  rcv h := by cases h
  snd _ := ⟨rfl, rfl⟩

theorem window_inv : BlockInv window.hw window.blk := window_inv_at 2

theorem awaiting_inv : BlockInv awaiting.hw awaiting.blk where
  ses _ := ses_legal .sender .sw
  role := ⟨fun _ => rfl, by decide, fun _ => rfl⟩
  quiet := by decide
  entries e h := by
    simp only [awaiting, List.mem_cons, List.not_mem_nil, or_false] at h
    rw [h]; exact dataA_ok .sw 107
  done := by decide
  sws _ _ := ⟨by decide, fun _ => ⟨_, rfl, by decide⟩, by decide⟩
  gbs _ h := by cases h
  rcv h := by cases h
  snd _ := ⟨rfl, rfl⟩

theorem listen_inv (m : Mode) : BlockInv State.reset.hw (ep .receiver m .listen).blk where
  ses _ := ses_legal .receiver m
  role := ⟨by cases m <;> decide, fun _ => rfl, by cases m <;> decide⟩
  quiet _ _ := rfl
  entries e h := by cases h
  done := by cases m <;> decide
  sws h := by cases h
  gbs h := by cases h
  rcv _ := ⟨by cases m <;> decide, by cases m <;> decide, by cases m <;> decide, ⟨rfl, rfl, rfl, rfl⟩⟩
  snd h := by cases h

theorem ready_inv : BlockInv State.reset.hw (ep .sender .sw .ready).blk where
  ses _ := ses_legal .sender .sw
  role := ⟨fun _ => rfl, by decide, by decide⟩
  quiet := by decide
  entries e h := by cases h
  done := by decide
  sws _ _ := ⟨by decide, (fun h => by cases h), by decide⟩
  gbs _ h := by cases h
  rcv h := by cases h
  snd _ := ⟨rfl, rfl⟩

/-! ## Each statement's hypotheses are met: its cases, at the boundaries of their ranges -/

/-- The endpoint runs as this role and mode and is in this control state. -/
abbrev Runs (r : Role) (m : Mode) (c : Ctl) (s : State) : Prop :=
  s.blk.ses.role = r ∧ s.blk.ses.mode = m ∧ s.blk.st = c

theorem test_hyp_OnesComplementLaws : (0x0001#16 ≠ 0#16) ∧ ¬(0x0000#16 = 0#16 ∧ 0x0001#16 = 0#16) := by decide

/-- Sums 0x0001, 0xFFFE, 0 and 0xFFFF (95_test_vectors 2.1), and a session for the example. -/
theorem test_hyp_ChecksumDoubleZero :
    ocsum16 [0x80, 0x00, 0x80, 0x00] = 0x0001 ∧ ocsum16 [0xFF, 0xFE] = 0xFFFE ∧ ocsum16 [0x00] = 0
    ∧ ocsum16 [0xFF, 0xFF] = 0xFFFF
    ∧ (ses .sender .sw).alg = .csum16 ∧ 1 ≤ (ses .sender .sw).m.toNat ∧ 2 ≤ (ses .sender .sw).mss.toNat := by decide

theorem test_hyp_DeferredFolding :
    foldTimes 1 (wordSum [0xFF, 0xFF, 0x00, 0x01]) ≤ 0xFFFF ∧ foldTimes 0 (wordSum [0xFF, 0xFF]) ≤ 0xFFFF
    ∧ ([] : List Byte).length ≤ 5 + 65535 := by decide

theorem test_hyp_SingleBitErrors :
    icVer .csum16 [0x61, 0x62, 0x63] 0x3B9D = true ∧ icVer .csum16 [0xFF, 0xFF] 0x0000 = true
    ∧ icVer .csum16 [0xFF, 0xFF] 0xFFFF = true ∧ icVer .crc16 [0x61, 0x62, 0x63] 0x514A = true
    ∧ 2 < [0x61#8, 0x62#8, 0x63#8].length ∧ 7 < 8 ∧ 15 < 16 := by decide +kernel

/-- The longest payload, the highest flag, the highest sequence number; an accepted and a rejected buffer. -/
theorem test_hyp_LeafUnitResults :
    encodePre (ses .sender .gbn) 3 flagData [1, 2, 3, 4] = true ∧ encodePre (ses .sender .gbn) 3 flagFin [] = true
    ∧ decodeSeg (ses .sender .gbn) ack3 = .segment 3 flagAck []
    ∧ decodeSeg (ses .sender .gbn) short = .corrupt .truncated
    ∧ (3#16).toNat < (ses .sender .gbn).m.toNat ∧ (ses .sender .gbn).alg = .csum16 := by decide

/-- Both trailers of the double zero decode. -/
theorem test_hyp_FramerRoundTrip :
    encodePre (ses .sender .gbn) 0 flagData [0xFF, 0xFD] = true
    ∧ decodeSeg (ses .sender .gbn) [0, 0, 0, 0, 2, 0xFF, 0xFD, 0, 0] = .segment 0 flagData [0xFF, 0xFD]
    ∧ decodeSeg (ses .sender .gbn) [0, 0, 0, 0, 2, 0xFF, 0xFD, 0xFF, 0xFF] = .segment 0 flagData [0xFF, 0xFD] := by
  decide

theorem test_hyp_DecodeChecksInOrder :
    [0#8, 0, 0, 0, 3, 0x61].length < 7 ∧ 7 ≤ ack0.length ∧ illegalHeader [0, 0, 3, 0, 0, 0xFC, 0xFF] = true
    ∧ illegalHeader short = true := by decide

theorem test_hyp_ArmedTimerRuns :
    window.blk.rtx[(1#16).toNat]? = some { seq := 1, frame := dataB, deadline := 10 }
    ∧ 1 ≤ (1#32).toNat ∧ (0x7FFFFFFF#32).toNat ≤ 2 ^ 31 - 1 ∧ 1 ≤ (0x7FFFFFFF#32).toNat ∧ 2 ^ 32 - 1 < 2 ^ 32 := by
  decide

theorem test_hyp_CancelAndExpiry :
    1 ≤ (1#16).toNat ∧ (2#16).toNat ≤ window.blk.rtx.length
    ∧ (0#16).toNat = 0 ∧ window.blk.rtx.length < (3#16).toNat
    ∧ (∃ e rest, window.blk.rtx = e :: rest) ∧ State.reset.blk.rtx = [] :=
  ⟨by decide, by decide, by decide, by decide, ⟨_, _, rfl⟩, rfl⟩

theorem test_hyp_WhereOperationsStop :
    window.blk.rtx.length ≤ (2#16).toNat ∧ enabled .gbsTimeout window = false
    ∧ BlockInv window.hw window.blk ∧ enabled .gbsClose window = true
    ∧ enabled (.tmArm (.queued 1)) window = true
    ∧ (∀ j : Half, Instr.tmArm (.queued 1) = .tmArm (.queued j) → j.toNat < window.blk.rtx.length) :=
  ⟨by decide, by decide, window_inv, by decide, by decide, fun j h => by cases h; decide⟩

theorem test_hyp_RetransmissionRearms :
    (∃ t, exec .swsTimeout (atTime 107 awaiting) = .next t) ∧ (∃ t, exec .gbsTimeout (atTime 9 window) = .next t)
    ∧ 1 ≤ awaiting.blk.ses.t.toNat ∧ window.blk.ses.t.toNat ≤ 2 ^ 31 - 1 ∧ 8 < window.blk.ses.t.toNat :=
  ⟨⟨_, rfl⟩, ⟨_, rfl⟩, by decide, by decide, by decide⟩

/-- The smallest and the largest legal configurations. -/
theorem test_hyp_OpenAccepted :
    (configured .sender .gbn 1 1 2 1).blk.st = .idle
    ∧ CfgLegal State.reset.hw (configured .sender .gbn 1 1 2 1).blk.cfg
    ∧ CfgLegal State.reset.hw (configured .sender .gbn 65535 65535 65536 0x7FFFFFFF).blk.cfg
    ∧ CfgLegal State.reset.hw (configured .receiver .sw 1 0 0 0).blk.cfg :=
  ⟨by decide, ⟨by decide, by decide, by decide⟩, ⟨by decide, by decide, by decide⟩, ⟨by decide, by decide, by decide⟩⟩

/-- Each way to be illegal, each way to be active. -/
theorem test_hyp_OpenRefused :
    State.reset.blk.st = .idle ∧ State.reset.blk.cfg.mss = 0
    ∧ ((resetWith { mssMax := 7, wMax := 7 }).hw.mssMax.toNat < (configured .sender .sw 8 0 0 1).blk.cfg.mss.toNat)
    ∧ (configured .sender .sw 1 0 0 0).blk.cfg.timeout = 0
    ∧ 2 ^ 31 - 1 < (configured .sender .sw 1 0 0 0x80000000).blk.cfg.timeout.toNat
    ∧ (configured .receiver .gbn 1 0 8 0).blk.cfg.w = 0
    ∧ ((resetWith { mssMax := 7, wMax := 7 }).hw.wMax.toNat < (configured .receiver .gbn 1 8 9 0).blk.cfg.w.toNat)
    ∧ (configured .receiver .gbn 1 4 4 0).blk.cfg.seqmod.toNat ≤ (configured .receiver .gbn 1 4 4 0).blk.cfg.w.toNat
    ∧ 65536 < (configured .receiver .gbn 1 4 65537 0).blk.cfg.seqmod.toNat
    ∧ window.blk.st = .ready ∧ awaiting.blk.st = .awaitingAck ∧ (ep .receiver .sw .listen).blk.st = .listen := by decide

theorem test_hyp_AbortTearsDown : window.blk.st ≠ .idle ∧ window.blk.st ≠ .aborted := by decide

/-- The reserved codes at the ends of their ranges; such a command behind a buffer, behind an expired timer, alone. -/
theorem test_hyp_RefusedAbortAndReserved :
    let c : HostCmd := { code := 0xFF, cause := 1, payload := [0x61] }
    let s : State := { atTime 9 window with env := { quietEnv with cmds := [c] } }
    State.reset.blk.st = .idle ∧ (ep .sender .sw .aborted).blk.st = .aborted
    ∧ 0x05 ≤ (0x05#8).toNat ∧ 0x05 ≤ c.code.toNat ∧ s.env.cmds = c :: []
    ∧ { s with env := { s.env with chIn := [ack0] } }.env.chIn = ack0 :: []
    ∧ s.env.chIn = [] ∧ timeoutEnabled s = true ∧ timeoutEnabled (atTime 8 s) = false := by decide

/-- Every answer of `tx_admit` occurs: a push of exactly and of more than `mss`, a full and a free window. -/
theorem test_hyp_AdmissionOrder :
    txAdmit .push [1, 2, 3, 4] awaiting = .busy ∧ txAdmit .push [1, 2, 3, 4, 5] awaiting = .badLen
    ∧ txAdmit .close [] window = .ok ∧ txAdmit .close [] (ep .receiver .sw .listen) = .badState
    ∧ txAdmit .close [] { window with blk := { window.blk with fin := true } } = .badState := by decide

theorem test_hyp_TxReadyIffAdmitted :
    BlockInv window.hw window.blk ∧ BlockInv awaiting.hw awaiting.blk
    ∧ [1#8, 2, 3, 4].length ≤ window.blk.ses.mss.toNat := ⟨window_inv, awaiting_inv, by decide⟩

theorem test_hyp_BuffersDropped :
    State.reset.blk.st = .idle ∧ (ep .sender .gbn .done).blk.st = .done ∧ (ep .receiver .sw .aborted).blk.st = .aborted
    ∧ (ep .sender .sw .ready).blk.ses.role = .sender ∧ (ep .sender .sw .ready).blk.ses.mode = .sw
    ∧ (ep .sender .sw .ready).blk.st = .ready := by decide

theorem test_hyp_SwsSends :
    (ep .sender .sw .ready).blk.ses.role = .sender ∧ (ep .sender .sw .ready).blk.ses.mode = .sw
    ∧ (ep .sender .sw .ready).blk.ses.w = 1 ∧ (ep .sender .sw .ready).blk.st = .ready
    ∧ (ep .sender .sw .ready).blk.fin = false ∧ (ep .sender .sw .ready).blk.rtx = []
    ∧ [1#8, 2, 3, 4].length ≤ (ep .sender .sw .ready).blk.ses.mss.toNat := by decide

theorem test_hyp_SwsAckAccepted :
    awaiting.blk.ses.role = .sender ∧ awaiting.blk.ses.mode = .sw ∧ awaiting.blk.st = .awaitingAck
    ∧ (∃ e, awaiting.blk.rtx = [e])
    ∧ decodeSeg awaiting.blk.ses ack0 = .segment (awaiting.blk.b.zeroExtend 16) flagAck [] :=
  ⟨rfl, rfl, rfl, ⟨_, rfl⟩, by decide⟩

/-- Corrupt, a wrong ACK, DATA and FIN; the queue is as in `test_hyp_SwsAckAccepted`. -/
theorem test_hyp_SwsAckBadResends :
    Runs .sender .sw .awaitingAck awaiting
    ∧ decodeSeg awaiting.blk.ses short = .corrupt .truncated
    ∧ decodeSeg awaiting.blk.ses ack1 = .segment 1 flagAck [] ∧ 1 ≠ awaiting.blk.b.zeroExtend 16
    ∧ decodeSeg awaiting.blk.ses dataA = .segment 0 flagData [0x41]
    ∧ decodeSeg awaiting.blk.ses fin0 = .segment 0 flagFin [] := by decide

theorem test_hyp_SwsTimeoutResends :
    (∃ e, (atTime 107 awaiting).blk.rtx = [e] ∧ expired 107 e.deadline = true)
    ∧ (atTime 107 awaiting).blk.st = .awaitingAck ∧ (atTime 107 awaiting).blk.ses.role = .sender
    ∧ (atTime 107 awaiting).blk.ses.mode = .sw := ⟨⟨_, rfl, by decide⟩, rfl, rfl, rfl⟩

theorem test_hyp_SwrDelivers :
    (ep .receiver .sw .listen).blk.ses.role = .receiver ∧ (ep .receiver .sw .listen).blk.ses.mode = .sw
    ∧ (ep .receiver .sw .listen).blk.st = .listen
    ∧ decodeSeg (ses .receiver .sw) dataA = .segment (ep .receiver .sw .listen).blk.expected flagData [0x41] := by decide

/-- A DATA and a FIN out of sequence; both flags at a closed receiver. -/
theorem test_hyp_SwrReacknowledges :
    Runs .receiver .sw .listen (ep .receiver .sw .listen) ∧ Runs .receiver .sw .closed (ep .receiver .sw .closed)
    ∧ decodeSeg (ses .receiver .sw) dataB = .segment 1 flagData [0x42]
    ∧ decodeSeg (ses .receiver .sw) fin1 = .segment 1 flagFin [] ∧ 1 ≠ (ep .receiver .sw .listen).blk.expected
    ∧ flagData = (if (0#1) = 0 then flagData else flagFin)
    ∧ flagFin = (if (1#1) = 0 then flagData else flagFin) := by decide

theorem test_hyp_SwrCloses :
    Runs .receiver .sw .listen (ep .receiver .sw .listen)
    ∧ decodeSeg (ep .receiver .sw .listen).blk.ses fin0
      = .segment (ep .receiver .sw .listen).blk.expected flagFin [] := by decide

theorem test_hyp_SwrDiscards :
    Runs .receiver .sw .listen (ep .receiver .sw .listen) ∧ Runs .receiver .sw .closed (ep .receiver .sw .closed)
    ∧ decodeSeg (ses .receiver .sw) short = .corrupt .truncated
    ∧ decodeSeg (ses .receiver .sw) ack0 = .segment 0 flagAck [] := by decide

/-- One free slot, a payload of `mss` bytes. -/
theorem test_hyp_GbsSends :
    window.blk.ses.role = .sender ∧ window.blk.ses.mode = .gbn ∧ window.blk.st = .ready ∧ window.blk.fin = false
    ∧ window.blk.rtx.length + 1 = window.blk.ses.w.toNat ∧ [1#8, 2, 3, 4].length ≤ window.blk.ses.mss.toNat := by decide

/-- The first and the last acknowledgment in range. -/
theorem test_hyp_GbsAckRetires :
    Runs .sender .gbn .ready window
    ∧ decodeSeg window.blk.ses ack0 = .segment 0 flagAck [] ∧ decodeSeg window.blk.ses ack1 = .segment 1 flagAck []
    ∧ ((0 : Nat) : Int) = (((0#16).toNat : Int) - (window.blk.base.toNat : Int)) % (window.blk.ses.m.toNat : Int)
    ∧ ((1 : Nat) : Int) = (((1#16).toNat : Int) - (window.blk.base.toNat : Int)) % (window.blk.ses.m.toNat : Int)
    ∧ 1 < window.blk.rtx.length := by decide

/-- The first acknowledgment out of range (2) and the one before `base` (3); a corrupt buffer, DATA and FIN. -/
theorem test_hyp_GbsIgnores :
    Runs .sender .gbn .ready window
    ∧ decodeSeg window.blk.ses [0x00, 0x02, 0x01, 0x00, 0x00, 0xFE, 0xFD] = .segment 2 flagAck []
    ∧ decodeSeg window.blk.ses ack3 = .segment 3 flagAck []
    ∧ (window.blk.rtx.length : Int)
      ≤ (((2#16).toNat : Int) - (window.blk.base.toNat : Int)) % (window.blk.ses.m.toNat : Int)
    ∧ (window.blk.rtx.length : Int)
      ≤ (((3#16).toNat : Int) - (window.blk.base.toNat : Int)) % (window.blk.ses.m.toNat : Int)
    ∧ decodeSeg window.blk.ses short = .corrupt .truncated
    ∧ decodeSeg window.blk.ses dataA = .segment 0 flagData [0x41]
    ∧ decodeSeg window.blk.ses fin0 = .segment 0 flagFin [] := by decide

theorem test_hyp_GbsTimeoutResends :
    (∃ e rest, (atTime 9 window).blk.rtx = e :: rest ∧ expired (atTime 9 window).blk.now e.deadline = true)
    ∧ (atTime 9 window).blk.ses.role = .sender ∧ (atTime 9 window).blk.ses.mode = .gbn
    ∧ (atTime 9 window).blk.st = .ready := ⟨⟨_, _, rfl, by decide⟩, rfl, rfl, rfl⟩

theorem test_hyp_GbrDelivers :
    (ep .receiver .gbn .listen).blk.ses.role = .receiver ∧ (ep .receiver .gbn .listen).blk.ses.mode = .gbn
    ∧ (ep .receiver .gbn .listen).blk.st = .listen
    ∧ decodeSeg (ses .receiver .gbn) dataA = .segment (ep .receiver .gbn .listen).blk.expected flagData [0x41] := by
  decide

/-- `expected = 0`, so the acknowledgment of `M − 1 = 3`. -/
theorem test_hyp_GbrReacknowledges :
    Runs .receiver .gbn .listen (ep .receiver .gbn .listen)
    ∧ Runs .receiver .gbn .closed (ep .receiver .gbn .closed)
    ∧ decodeSeg (ses .receiver .gbn) dataB = .segment 1 flagData [0x42]
    ∧ decodeSeg (ses .receiver .gbn) fin1 = .segment 1 flagFin []
    ∧ ((3#16).toNat : Int)
      = (((ep .receiver .gbn .listen).blk.expected.toNat : Int) - 1) % ((ses .receiver .gbn).m.toNat : Int)
    ∧ 1 ≠ (ep .receiver .gbn .listen).blk.expected := by decide

theorem test_hyp_GbrCloses :
    Runs .receiver .gbn .listen (ep .receiver .gbn .listen)
    ∧ decodeSeg (ep .receiver .gbn .listen).blk.ses fin0
      = .segment (ep .receiver .gbn .listen).blk.expected flagFin [] := by decide

theorem test_hyp_GbrDiscards :
    Runs .receiver .gbn .listen (ep .receiver .gbn .listen) ∧ Runs .receiver .gbn .closed (ep .receiver .gbn .closed)
    ∧ decodeSeg (ses .receiver .gbn) short = .corrupt .truncated
    ∧ decodeSeg (ses .receiver .gbn) ack0 = .segment 0 flagAck [] := by decide

/-- The trailers `FE BE`, `FD FF`, `FE FF` of `dataA`, `fin0` and `ack0`. -/
theorem test_hyp_FrameRowsAct :
    Runs .receiver .gbn .listen (ep .receiver .gbn .listen) ∧ Runs .receiver .sw .closed (ep .receiver .sw .closed)
    ∧ Runs .sender .sw .awaitingAck awaiting ∧ Runs .sender .gbn .ready window
    ∧ SesLegal State.reset.hw (ses .receiver .gbn) ∧ SesLegal State.reset.hw (ses .receiver .sw)
    ∧ SesLegal State.reset.hw (ses .sender .sw) ∧ SesLegal State.reset.hw (ses .sender .gbn)
    ∧ encodePre (ses .receiver .gbn) 0 flagData [0x41] = true
    ∧ icVer .csum16 (frameBody 0 flagData [0x41]) 0xFEBE = true
    ∧ icVer .csum16 (frameBody 0 flagFin []) 0xFDFF = true
    ∧ icVer .csum16 (frameBody (awaiting.blk.b.zeroExtend 16) flagAck []) 0xFEFF = true
    ∧ icVer .csum16 (frameBody 1 flagAck []) 0xFEFE = true
    ∧ ((1 : Nat) : Int) = (((1#16).toNat : Int) - (window.blk.base.toNat : Int)) % (window.blk.ses.m.toNat : Int)
    ∧ illegalHeader short = true :=
  ⟨by decide, by decide, by decide, by decide, ses_legal _ _, ses_legal _ _, ses_legal _ _, ses_legal _ _, by decide⟩

/-- The invariant at every machine; the class of a decoded buffer, and the free class of a dropped one. -/
theorem test_hyp_DispatchIsTotal :
    BlockInv window.hw window.blk ∧ BlockInv awaiting.hw awaiting.blk
    ∧ BlockInv State.reset.hw (ep .receiver .sw .listen).blk ∧ BlockInv State.reset.hw (ep .receiver .gbn .listen).blk
    ∧ BlockInv State.reset.hw (ep .sender .sw .ready).blk
    ∧ (7 : BitVec 3) = classOf (decodeSeg window.blk.ses short)
    ∧ (1 : BitVec 3) = classOf (decodeSeg window.blk.ses ack0) ∧ legalClass 7 = true
    ∧ BlockInv (atTime 9 window).hw (atTime 9 window).blk
    ∧ timeoutEnabled (atTime 9 window) = true ∧ timeoutEnabled window = false :=
  ⟨window_inv, awaiting_inv, listen_inv _, listen_inv _, ready_inv, by decide, by decide, by decide, window_inv_at 9,
    by decide⟩

/-- A word that is decoded and run, a happening, and a word that decodes to nothing. -/
theorem test_hyp_StepRunsDecoded :
    (∃ t, fetch (issueFirst .tm [0] window) = .word .tm [0] t ∧ decodeIn t .tm [0] = .ok .tmTick)
    ∧ (∃ t, fetch State.reset = .still t)
    ∧ (∃ t, fetch (issueFirst .tm [5] window) = .word .tm [5] t ∧ decodeIn t .tm [5] = .error .reservedSelect) :=
  ⟨⟨_, rfl, rfl⟩, ⟨_, rfl⟩, ⟨_, rfl, rfl⟩⟩

/-- An endpoint with these offers and this agenda. -/
def offering (a : List Moment) (cmds : List HostCmd) (chIn : List Datagram) (s : State) : State :=
  { s with env := { s.env with agenda := a, cmds := cmds, chIn := chIn } }

/-- An `ABORT` and a `TX_PUSH` as the host issues them. -/
def abortCmd : HostCmd := { code := 0x04, cause := 1, payload := [] }
/-- A `TX_PUSH` as the host issues it. -/
def pushCmd : HostCmd := { code := 0x02, cause := 0, payload := [0x61] }

/-- At the expired window: an ABORT first; a buffer and no ABORT; the expiry and another command; at the window before its
deadline, another command, and nothing; the two other kinds of moment. -/
theorem test_hyp_ArbitrationOrder :
    BlockInv (offering [] [abortCmd] [ack0] (atTime 9 window)).hw (offering [] [abortCmd] [ack0] (atTime 9 window)).blk
    ∧ abortCmd.code = 0x04 ∧ pushCmd.code ≠ 0x04
    ∧ timeoutEnabled (offering [] [pushCmd] [ack0] (atTime 9 window)) = true
    ∧ timeoutEnabled (offering [.serve] [pushCmd] [] (atTime 9 window)) = true
    ∧ BlockInv (offering [] [pushCmd] [] window).hw (offering [] [pushCmd] [] window).blk
    ∧ timeoutEnabled (offering [] [pushCmd] [] window) = false ∧ timeoutEnabled (offering [] [] [] window) = false
    ∧ (offering [.serve] [] [] window).env.agenda = .serve :: []
    ∧ (offering [.tick] [] [] window).env.agenda = .tick :: []
    ∧ (offering [.pick .timeout] [] [] (atTime 9 window)).env.agenda = .pick .timeout :: [] :=
  ⟨window_inv_at 9, by decide, by decide, by decide, by decide, window_inv, by decide⟩

/-- The priority, by one step each (43_session_control R181). -/
theorem test_priority :
    (blkOf (step (offering [] [abortCmd] [ack0] (atTime 9 window)))).map (fun k => k.st) = some .aborted
    ∧ (blkOf (step (offering [] [pushCmd] [ack0] (atTime 9 window)))).map (fun k => k.base) = some 1
    ∧ (blkOf (step (offering [] [pushCmd] [] (atTime 9 window)))).map (fun k => k.lastCause) = some .timeout
    ∧ (blkOf (step (offering [] [pushCmd] [] window))).map (fun k => k.nxt) = some 3
    ∧ (blkOf (step (offering [.pick .command] [pushCmd] [ack0] (atTime 9 window)))).map (fun k => k.nxt) = some 3 := by
  decide

theorem test_hyp_PortsAndRegisters :
    (offering [.arrive ack0] [] [] window).env.agenda = .arrive ack0 :: []
    ∧ (offering [.command pushCmd] [] [] window).env.agenda = .command pushCmd :: []
    ∧ (offering [.csrRead 14] [] [] window).env.agenda = .csrRead 14 :: [] ∧ 13 < 14
    ∧ (offering [.csrWrite 7 0] [] [] window).env.agenda = .csrWrite 7 0 :: [] ∧ 7 ≤ 7 := by decide

/-- Two states that differ in their configuration registers only; an OPEN that latches. -/
theorem test_hyp_ConfigurationCoherence :
    eraseCfg (configured .sender .gbn 1 1 2 1) = eraseCfg .reset ∧ configured .sender .gbn 1 1 2 1 ≠ .reset
    ∧ isOpen .tmTick = false ∧ window.blk.st.isActive = true
    ∧ (∃ t, exec .cmdOpen (configured .sender .gbn 1 1 2 1) = .next t
      ∧ t.blk.ses ≠ (configured .sender .gbn 1 1 2 1).blk.ses) := ⟨by decide, by decide, by decide, by decide, ⟨_, rfl, by decide⟩⟩

theorem test_hyp_ResetIsTotal : (offering [.reset] [] [] window).env.agenda = .reset :: [] := rfl

theorem test_hyp_DiagnosticsInfluenceNothing :
    eraseDiag { window with blk := { window.blk with oooSeen := true, lastCause := .duplicate, abortCause := 3 } }
      = eraseDiag window
    ∧ { window with blk := { window.blk with oooSeen := true, lastCause := .duplicate, abortCause := 3 } } ≠ window := by
  decide

theorem test_hyp_EncodeThenDecode :
    (Instr.swsAckBad 7 short).wellFormed = true ∧ enabled (.swsAckBad 7 short) awaiting = true
    ∧ (Instr.txRefuse 0 0 .push [0x78]).wellFormed = true ∧ enabled (.txRefuse 0 0 .push [0x78]) awaiting = true
    ∧ (Instr.frameData 0 1 [0x41, 0xFE, 0xBE]).wellFormed = true := by decide

theorem test_hyp_DecodeThenEncode :
    decode .tm [0x02, 0x00, 0x02] = .ok (.tmCancel 2) ∧ decode .cmd [0x07, 0x00] = .ok (.cmdReserved 7)
    ∧ Instr.swsRxReady 7 short ∈ dwRows 0b00101111 short := by decide

/-- States that meet `Inv`, with a step that goes on. -/
theorem test_hyp_StepKeepsInvariant :
    Inv (offering [] [pushCmd] [ack0] window) ∧ ∃ t, step (offering [] [pushCmd] [ack0] window) = .next t :=
  ⟨⟨window_inv, fun _ _ h => by cases h⟩, ⟨_, rfl⟩⟩

theorem test_hyp_StepCompletes : Inv (offering [] [abortCmd] [] awaiting) :=
  ⟨awaiting_inv, fun _ _ h => by cases h⟩

theorem test_hyp_OutstandingBounds :
    BlockInv window.hw window.blk ∧ BlockInv awaiting.hw awaiting.blk
    ∧ BlockInv State.reset.hw (ep .receiver .gbn .listen).blk
    ∧ timeoutEnabled (atTime 9 window) = true ∧ BlockInv (atTime 9 window).hw (atTime 9 window).blk :=
  ⟨window_inv, awaiting_inv, listen_inv _, by decide, window_inv_at 9⟩

/-- Each variable is written by some operation. -/
theorem test_hyp_VariablesAndWriters :
    (blkOf (exec .tmTick window)).map (fun k => k.now) = some 3
    ∧ (blkOf (exec (.swsAckOk ack0) awaiting)).map (fun k => k.b) = some 1
    ∧ (blkOf (exec (.gbsAck ack0) window)).map (fun k => k.base) = some 1
    ∧ (blkOf (exec .gbsClose window)).map (fun k => (k.nxt, k.fin)) = some (3, true)
    ∧ (blkOf (exec (.swrFinOk fin0) (ep .receiver .sw .listen))).map (fun k => (k.expected, k.eos)) = some (1, true)
    ∧ (blkOf (exec (.evAbort 0 1 9) window)).map (fun k => k.abortCause) = some 9
    ∧ (encode .tmTick).1 ≠ .frame ∧ (encode .tmTick).1 ≠ .cmd := by decide

/-- One entry more at the tail, one less at the head. -/
theorem test_hyp_StoredFramesStand :
    (∃ t, exec (.gbsPush [0x63]) window = .next t ∧ t.blk.rtx.length = 3)
    ∧ ∃ t, exec (.gbsAck ack0) window = .next t ∧ t.blk.rtx.length = 1 :=
  ⟨⟨_, rfl, by decide⟩, _, rfl, by decide⟩

/-- A sender that emits two frames, a receiver that emits one. -/
theorem test_hyp_EmissionsAreFrames :
    BlockInv (atTime 9 window).hw (atTime 9 window).blk
    ∧ outOf (exec .gbsTimeout (atTime 9 window)) = some ([] ++ [.emit dataA, .emit dataB])
    ∧ BlockInv State.reset.hw (ep .receiver .sw .listen).blk
    ∧ outOf (exec (.swrDataDup dataB) (ep .receiver .sw .listen)) = some ([] ++ [.emit ack1]) :=
  ⟨window_inv_at 9, by decide, listen_inv _, by decide⟩

theorem test_hyp_AbortedStaysSilent :
    (ep .sender .gbn .aborted).blk.st = .aborted ∧ (ep .sender .gbn .aborted).blk.rtx = [] ∧ isOpen (.cmdTxPush []) = false
    ∧ ∃ t, exec (.cmdTxPush []) (ep .sender .gbn .aborted) = .next t := ⟨rfl, rfl, by decide, ⟨_, rfl⟩⟩

/-- Two rejected buffers with one sub-cause, and one with another. -/
theorem test_hyp_NoPartialTrust :
    decodeSeg awaiting.blk.ses short = .corrupt .truncated ∧ decodeSeg awaiting.blk.ses [] = .corrupt .truncated
    ∧ decodeSeg awaiting.blk.ses [0, 0, 0, 0, 0, 0, 0] = .corrupt .integrity := by decide

/-- A step that meets the premises of the deadline order: a push picked before the deadline, and the TIMEOUT served at
the last tick of the service bound with a push waiting. -/
theorem test_hyp_DeadlinesInOrder_step :
    let s := offering [.pick .command] [pushCmd] [] window
    let u := offering [.serve] [pushCmd] [] (atTime 0x80000008 window)
    (Inv s ∧ AgesFall s.blk ∧ DeadlineOrder s.blk ∧ ServedInTime s.blk ∧ KeepsPriority s ∧ ∃ t, step s = .next t)
    ∧ (Inv u ∧ AgesFall u.blk ∧ DeadlineOrder u.blk ∧ ServedInTime u.blk ∧ KeepsPriority u ∧ ∃ t, step u = .next t) := by
  refine ⟨⟨⟨window_inv, ?_⟩, ?_, ?_, ?_, ?_, ⟨_, rfl⟩⟩, ⟨window_inv_at _, ?_⟩, ?_, ?_, ?_, ?_, ⟨_, rfl⟩⟩
  all_goals first
    | (unfold AgesFall; decide)
    | (unfold DeadlineOrder; decide)
    | (unfold ServedInTime; decide)
    | (unfold KeepsPriority; decide)
    | (intro f bs h; simp [offering] at h)

/-- Two timers of different age, the older one just expired, inside the service bound. -/
theorem test_hyp_DeadlinesInOrder :
    BlockInv window.hw window.blk ∧ AgesFall window.blk
    ∧ (∀ e ∈ window.blk.rtx, age window.blk.now window.blk.ses.t e < 2 ^ 31)
    ∧ (∃ t, exec (.gbsPush [0x63]) window = .next t)
    ∧ AgesFall (atTime 9 window).blk
    ∧ (∃ e ∈ (atTime 9 window).blk.rtx, expired (atTime 9 window).blk.now e.deadline = true)
    ∧ ServedInTime (atTime 9 window).blk :=
  ⟨window_inv, by unfold AgesFall; decide, by decide, ⟨_, rfl⟩, by unfold AgesFall; decide, by decide,
    by unfold ServedInTime; decide⟩

/-- Why the clause for every order of service asks for ages below 2^31 (log 25): with T = 10, a push at time 0, and
another at 2^31 + 5, served before the enabled TIMEOUT, the ages are inside R297's bound and the formula fails. -/
theorem test_deadline_formula_inside_the_service_bound :
    let k : Block := { (atTime 0x80000005 window).blk with
      ses := { window.blk.ses with t := 10 }
      rtx := [{ seq := 0, frame := dataA, deadline := 10 }, { seq := 1, frame := dataB, deadline := 0x8000000F }] }
    AgesFall k ∧ ServedInTime k ∧ ¬ DeadlineOrder k := by
  unfold AgesFall ServedInTime DeadlineOrder
  decide

/-! ## A link -/

/-- Two endpoints just opened in this mode. -/
def opened (m : Mode) : Link :=
  .between
    { State.reset with blk := openedBlock (configured .sender m 4 3 4 9).blk }
    { State.reset with blk := openedBlock (configured .receiver m 4 3 4 0).blk }

theorem opened_begins (m : Mode) : Begins (opened m) where
  snd := ⟨(configured .sender m 4 3 4 9).blk, rfl, by cases m <;> decide, rfl⟩
  rcv := ⟨(configured .receiver m 4 3 4 0).blk, rfl, by cases m <;> decide, rfl⟩
  same := ⟨rfl, rfl, rfl, rfl⟩
  quiet := ⟨rfl, rfl⟩
  drained := ⟨rfl, rfl, rfl⟩

/-- One payload and the close, each delivered and acknowledged. -/
def session : List LinkMove :=
  [.offerSnd (.command pushCmd), .stepSnd, .stepSnd, .deliver .fwd, .drop .fwd, .stepRcv, .deliver .ret, .drop .ret,
    .stepSnd, .offerSnd (.command { code := 0x03, cause := 0, payload := [] }), .stepSnd, .stepSnd, .deliver .fwd, .stepRcv,
    .deliver .ret, .stepSnd]

/-- Moves that are quiet at any link. -/
def PlainMove : LinkMove → Prop
  | .offerSnd m => QuietMoment m
  | .offerRcv m => QuietMoment m
  | .alter _ _ => False
  | .stepSnd => True
  | .stepRcv => True
  | .deliver _ => True
  | .drop _ => True

/-- Plain moves that go through are a quiet run. -/
theorem quietReach_moves (l : Link) (ms : List LinkMove) (h : ∀ mv ∈ ms, PlainMove mv) :
    ∀ a b, QuietReach l a → a.moves ms = some b → QuietReach l b := by
  induction ms with
  | nil => intro a b ha hb; cases hb; exact ha
  | cons mv rest ih =>
    intro a b ha hb
    simp only [Link.moves] at hb
    split at hb
    · rename_i a' he
      have hp : PlainMove mv := h mv (by simp)
      exact ih (fun x hx => h x (by simp [hx])) a' b (.move mv ha (by cases mv <;> first | exact hp | exact hp.elim) he) hb
    · cases hb

theorem session_plain : ∀ mv ∈ session, PlainMove mv := by
  simp [session, PlainMove, QuietMoment, pushCmd]

/-- A quiet run to DONE with one byte delivered, in either mode. -/
theorem test_hyp_delivers (m : Mode) : Begins (opened m) ∧ ∃ l', QuietReach (opened m) l' ∧ l'.snd.blk.st = .done
    ∧ sinkBytes l'.rcv = [0x61] ∧ l'.accepted = [[0x61]] := by
  refine ⟨opened_begins m, ?_⟩
  have h : (((opened m).moves session).map (fun l => (l.snd.blk.st, sinkBytes l.rcv, l.accepted)))
      = some (.done, [0x61], [[0x61]]) := by cases m <;> decide +kernel
  obtain ⟨l', h1, h2⟩ := Option.map_eq_some_iff.mp h
  simp only [Prod.mk.injEq] at h2
  exact ⟨l', quietReach_moves _ _ session_plain _ _ .start h1, h2.1, h2.2.1, h2.2.2⟩

theorem test_hyp_StopAndWaitDelivers : (opened .sw).snd.blk.ses.mode = .sw ∧ Begins (opened .sw) :=
  ⟨rfl, opened_begins .sw⟩

theorem test_hyp_GoBackNDelivers : (opened .gbn).snd.blk.ses.mode = .gbn ∧ Begins (opened .gbn) :=
  ⟨rfl, opened_begins .gbn⟩

end Sys2Proof.Tests
end

section
/-! # What an operation can do

One inversion of `exec` for all operations (`exec_effect`), and what a step of an endpoint driven through its ports takes
up (`fetch_ports`). Every statement about steps below is a case analysis over these. -/

namespace Sys2Proof.Proofs

open Sys2Proof Sys2Proof.Machine Sys2Proof.Safety

/-! ## Conditions read as propositions -/

theorem runsAs_iff (r : Role) (m : Mode) (s : State) :
    runsAs r m s = true ↔ s.blk.ses.role = r ∧ s.blk.ses.mode = m := by
  simp [runsAs]

theorem inState_iff (c : Ctl) (s : State) : inState c s = true ↔ s.blk.st = c := by
  simp [inState]

/-! ## The event an operation handles -/

/-- The event code of 30_encoding R103 an operation handles: `RX_FRAME` for a frame, the command's own code for a
command, the `ev` field for a transition row; 0 for a unit operation and a reserved command. -/
def eventOf (i : Instr) : BitVec 3 :=
  match encode i with
  | (.frame, _) => 5#3
  | (.cmd, w :: _) => if w.toNat ≤ 4 then w.truncate 3 else 0#3
  | (.dw, w :: _) => dwEv w
  | _ => 0#3

/-- The operation handles a `TX_PUSH` or a `TX_CLOSE`. -/
def HandlesSend (i : Instr) : Prop := eventOf i = 2#3 ∨ eventOf i = 3#3

theorem eventOf_of_word {i : Instr} {w : Byte} {ops : List Byte} (h : encode i = (.dw, w :: ops)) :
    eventOf i = dwEv w := by
  simp only [eventOf, h]

theorem eventOf_of_frame {i : Instr} (h : (encode i).1 = .frame) : eventOf i = 5#3 := by
  have he : encode i = (.frame, (encode i).2) := Prod.ext h rfl
  unfold eventOf
  rw [he]

/-- Every row an `RX_FRAME` word lists is a transition row of that event. -/
theorem rxRows_event (r m : BitVec 1) (c : BitVec 3) (buf : List Byte) :
    ∀ i ∈ rxRows r m c buf, isRow i = true ∧ eventOf i = 5#3 := by
  unfold rxRows
  split_ifs <;> simp [isRow, eventOf, encode]

/-- Every row of a dispatch word is a transition row of the word's event. -/
theorem dwRows_event (w : Byte) (ops : List Byte) : ∀ i ∈ dwRows w ops, isRow i = true ∧ eventOf i = dwEv w := by
  unfold dwRows
  dsimp only
  split
  next h => split_ifs <;> simp [isRow, eventOf, encode, h]
  next =>
  split
  next h => split_ifs <;> simp [isRow, eventOf, encode, txEv, h]
  next =>
  split
  next h => split_ifs <;> simp [isRow, eventOf, encode, txEv, h]
  next =>
  split
  next h =>
    split
    · split_ifs <;> simp [isRow, eventOf, encode, h]
    · simp
  next =>
  split
  next h => rw [h]; exact rxRows_event _ _ _ _
  next =>
  split
  next h => split_ifs <;> simp [isRow, eventOf, encode, h]
  next =>
  split
  next h => split_ifs <;> simp [isRow, eventOf, encode, h]
  next => simp

/-! ## What a row or a unit operation can do -/

/-- What the receiver of the session's mode expects after it has accepted a segment (44_stop_and_wait R211,
45_go_back_n R241). -/
def nextExpected (s : State) : Half :=
  match s.blk.ses.mode with
  | .sw => otherSeq s.blk.expected
  | .gbn => expectedSucc s

/-- The number the receiver of the session's mode has acknowledged last (44_stop_and_wait R210, 45_go_back_n R240). -/
def lastAcked (s : State) : Half :=
  match s.blk.ses.mode with
  | .sw => otherSeq s.blk.expected
  | .gbn => expectedPred s

/-- All that a unit operation or a transition row can do to a state, with the condition it did it under. -/
inductive RowEffect (s : State) : Instr → State → Prop
  | unchanged {i : Instr} : RowEffect s i s
  | result {i : Instr} (v : UnitResult) : RowEffect s i (setUnitOut v s)
  | refused {i : Instr} (r : CmdResult) : RowEffect s i (setCmdErr r s)
  | raised {i : Instr} (c : Cause) : RowEffect s i (raise c s)
  | ticked {i : Instr} (hi : isTick i = true) : RowEffect s i (tickNow s)
  | armed (j : Half) : RowEffect s (.tmArm (.queued j)) (setRtx (armAt s j.toNat) s)
  | cancelled {i : Instr} (n d : Nat) (hi : (encode i).1 = .tm) : RowEffect s i { s with
      blk := { s.blk with rtx := s.blk.rtx.drop n }, env := { s.env with freeDraws := d } }
  | opened {i : Instr} (hi : isOpen i = true) (hc : condOpen s = true) :
      RowEffect s i { s with blk := openedBlock s.blk }
  | tornDown (r m : BitVec 1) (cause : Byte) (hc : condAbort s = true) :
      RowEffect s (.evAbort r m cause) (tearDown cause s)
  | swsPushed (p : List Byte) (hc : condSwsPush p s = true) : RowEffect s (.swsPush p)
      (setCmdErr .ok (setSt .awaitingAck (sendSegment (seqOfBit s.blk.b) flagData p s)))
  | swsClosed (hc : condSwsClose s = true) : RowEffect s .swsClose
      (setCmdErr .ok (setSt .awaitingAck (setFin true (sendSegment (seqOfBit s.blk.b) flagFin [] s))))
  | swsAcked (buf : List Byte) (hc : condSwsAckOk buf s = true) : RowEffect s (.swsAckOk buf)
      (setSt (if s.blk.fin then .done else .ready) (setB (flipBit s.blk.b) (cancelOldest 1 s)))
  | swsResent {i : Instr} (c : Cause) (e : Entry) (rest : List Entry) (hm : runsAs .sender .sw s = true)
      (hst : s.blk.st = .awaitingAck) (hq : s.blk.rtx = e :: rest) :
      RowEffect s i (setRetxSeen (resendHead e rest (raise c s)))
  | gbsPushed (p : List Byte) (hc : condGbsPush p s = true) : RowEffect s (.gbsPush p)
      (setCmdErr .ok (sendNext flagData p s))
  | gbsClosed (hc : condGbsClose s = true) : RowEffect s .gbsClose
      (setCmdErr .ok (setFin true (sendNext flagFin [] s)))
  | gbsAcked (buf : List Byte) (hc : condGbsAck buf s = true) : RowEffect s (.gbsAck buf)
      (finishIfDrained (retire (dec s buf).seqNum s))
  | gbsResent {i : Instr} (c : Cause) (hm : runsAs .sender .gbn s = true) (hst : s.blk.st = .ready) :
      RowEffect s i (resendWindow (raise c s))
  | acceptedData {i : Instr} (buf : List Byte) (hi : i = .swrDataOk buf ∨ i = .gbrDataOk buf)
      (hr : s.blk.ses.role = .receiver) (hst : s.blk.st = .listen) (hf : (dec s buf).hasFlag flagData = true)
      (hseq : (dec s buf).hasSeq s.blk.expected = true) :
      RowEffect s i (acceptData (nextExpected s) (dec s buf) s)
  | acceptedFin {i : Instr} (buf : List Byte) (hi : i = .swrFinOk buf ∨ i = .gbrFinOk buf)
      (hr : s.blk.ses.role = .receiver) (hst : s.blk.st = .listen) (hf : (dec s buf).hasFlag flagFin = true)
      (hseq : (dec s buf).hasSeq s.blk.expected = true) :
      RowEffect s i (acceptFin (nextExpected s) (dec s buf) s)
  | reAcked {i : Instr} (c : Cause) (hr : s.blk.ses.role = .receiver)
      (hst : s.blk.st = .listen ∨ s.blk.st = .closed) : RowEffect s i (reAck c (lastAcked s) s)

/-- A retransmission on TIMEOUT has raised Timeout, which sets `retx_seen` already (60_exceptions R262). -/
theorem setRetxSeen_resendHead_timeout (e : Entry) (rest : List Entry) (s : State) :
    setRetxSeen (resendHead e rest (raise .timeout s)) = resendHead e rest (raise .timeout s) := by
  simp [setRetxSeen, resendHead, raise, setRtx, emit]

theorem lastAcked_sw {s : State} (h : s.blk.ses.mode = .sw) : lastAcked s = otherSeq s.blk.expected := by
  simp [lastAcked, h]

theorem lastAcked_gbn {s : State} (h : s.blk.ses.mode = .gbn) : lastAcked s = expectedPred s := by
  simp [lastAcked, h]

theorem nextExpected_sw {s : State} (h : s.blk.ses.mode = .sw) : nextExpected s = otherSeq s.blk.expected := by
  simp [nextExpected, h]

theorem nextExpected_gbn {s : State} (h : s.blk.ses.mode = .gbn) : nextExpected s = expectedSucc s := by
  simp [nextExpected, h]

/-- The condition under which a receiver accepts a segment, read as a proposition. -/
theorem accepts_iff {m : Mode} {s : State} {d : Decoded} {f : Byte} {v : Half} :
    (runsAs .receiver m s && inState .listen s && d.hasFlag f && d.hasSeq v) = true ↔
      s.blk.ses.role = .receiver ∧ s.blk.ses.mode = m ∧ s.blk.st = .listen ∧ d.hasFlag f = true ∧ d.hasSeq v = true := by
  simp only [Bool.and_eq_true, inState_iff, runsAs_iff, and_assoc]

/-- A guarded row that emits the last acknowledgment again under the conditions of a receiver that answers. -/
theorem reAcked_of_guarded {i : Instr} {s t : State} {m : Mode} {c : Cause} {a : Half} {st : Ctl} {b : Bool}
    (hst : st = .listen ∨ st = .closed) (ha : s.blk.ses.mode = m → lastAcked s = a)
    (hb : b = true → runsAs .receiver m s = true ∧ inState st s = true)
    (h : guarded b (reAck c a s) = .next t) : RowEffect s i t := by
  obtain ⟨hc, rfl⟩ := guarded_next h
  obtain ⟨hr, hs⟩ := hb hc
  obtain ⟨hrole, hmode⟩ := (runsAs_iff _ _ _).mp hr
  rw [← ha hmode]
  rw [inState_iff] at hs
  exact .reAcked c hrole (hs ▸ hst)

/-- The inversion of `exec` for the unit operations and the transition rows, one case per row of the opcode table. -/
theorem rowEffect_of_exec {i : Instr} {s t : State} (hf : (encode i).1 ≠ .frame) (hk : (encode i).1 ≠ .cmd)
    (h : exec i s = .next t) : RowEffect s i t := by
  cases i with
  | frameData | frameAck | frameFin | frameIllegal => exact absurd rfl hf
  | cmdOpen | cmdTxPush | cmdTxClose | cmdAbort | cmdReserved => exact absurd rfl hk
  | csum16 | csum16v | crc16 | crc16v | encode | decode | tmExpired => cases h; exact .result _
  | tmTick => cases h; exact .ticked rfl
  | tmArm x =>
    cases x with
    | fresh seq frame => cases h; exact .result _
    | queued j =>
      simp only [exec, execTmArm] at h
      split at h
      · cases h; exact .armed j
      · cases h
  | tmCancel k =>
    obtain ⟨n, d, he, -, -⟩ := execTmCancel_next k s
    have ht : execTmCancel k s = .next t := h
    rw [he] at ht
    cases ht
    exact .cancelled n d rfl
  | tmCancelAll =>
    cases h
    have hall : cancelAll s = { s with blk := { s.blk with rtx := s.blk.rtx.drop s.blk.rtx.length } } := by
      rw [List.drop_length]; rfl
    rw [hall]
    exact .cancelled _ s.env.freeDraws rfl
  | evOpen r m => obtain ⟨hc, rfl⟩ := guarded_next h; exact .opened (by simp [isOpen, Sys2Proof.encode]) hc
  | evOpenBadcfg | evOpenBadstate | evAbortBadstate | txRefuse => obtain ⟨-, rfl⟩ := guarded_next h; exact .refused _
  | evAbort r m cause => obtain ⟨hc, rfl⟩ := guarded_next h; exact .tornDown r m cause hc
  | rxInactive | swsRxReady => obtain ⟨-, rfl⟩ := guarded_next h; exact .unchanged
  | evTick r m => cases h; exact .ticked (by simp [isTick, Sys2Proof.encode])
  | swsPush p => obtain ⟨hc, rfl⟩ := guarded_next h; exact .swsPushed p hc
  | swsClose => obtain ⟨hc, rfl⟩ := guarded_next h; exact .swsClosed hc
  | swsAckOk buf => obtain ⟨hc, rfl⟩ := guarded_next h; exact .swsAcked buf hc
  | swsAckBad c buf =>
    have hc : condSwsAckBad c buf s = true := enabled_of_next h
    simp only [exec, execSwsAckBad, hc, if_true] at h
    simp only [condSwsAckBad, Bool.and_eq_true, inState_iff] at hc
    split at h
    · cases h
    next e rest hq => cases h; exact .swsResent _ e rest hc.1.1.1 hc.1.1.2 hq
  | swsTimeout =>
    have hc : condSwsTimeout s = true := enabled_of_next h
    simp only [exec, execSwsTimeout, hc, if_true] at h
    simp only [condSwsTimeout, Bool.and_eq_true, inState_iff] at hc
    split at h
    · cases h
    next e rest hq =>
      cases h
      rw [← setRetxSeen_resendHead_timeout]
      exact .swsResent _ e rest hc.1.1 hc.1.2 hq
  | gbsPush p => obtain ⟨hc, rfl⟩ := guarded_next h; exact .gbsPushed p hc
  | gbsClose => obtain ⟨hc, rfl⟩ := guarded_next h; exact .gbsClosed hc
  | gbsAck buf => obtain ⟨hc, rfl⟩ := guarded_next h; exact .gbsAcked buf hc
  | gbsTimeout =>
    obtain ⟨hc, rfl⟩ := guarded_next h
    simp only [condGbsTimeout, Bool.and_eq_true, inState_iff] at hc
    exact .gbsResent _ hc.1.1 hc.1.2
  | gbsAckStale | gbsDiscard | swrCorrupt | swrAckIgn | gbrCorrupt | gbrAckIgn =>
    obtain ⟨-, rfl⟩ := guarded_next h; exact .raised _
  | swrDataOk buf =>
    obtain ⟨hc, rfl⟩ := guarded_next h
    obtain ⟨hr, hm, hst, hflag, hseq⟩ := accepts_iff.mp hc
    rw [← nextExpected_sw hm]
    exact .acceptedData buf (.inl rfl) hr hst hflag hseq
  | gbrDataOk buf =>
    obtain ⟨hc, rfl⟩ := guarded_next h
    obtain ⟨hr, hm, hst, hflag, hseq⟩ := accepts_iff.mp hc
    rw [← nextExpected_gbn hm]
    exact .acceptedData buf (.inr rfl) hr hst hflag hseq
  | swrFinOk buf =>
    obtain ⟨hc, rfl⟩ := guarded_next h
    obtain ⟨hr, hm, hst, hflag, hseq⟩ := accepts_iff.mp hc
    rw [← nextExpected_sw hm]
    exact .acceptedFin buf (.inl rfl) hr hst hflag hseq
  | gbrFinOk buf =>
    obtain ⟨hc, rfl⟩ := guarded_next h
    obtain ⟨hr, hm, hst, hflag, hseq⟩ := accepts_iff.mp hc
    rw [← nextExpected_gbn hm]
    exact .acceptedFin buf (.inr rfl) hr hst hflag hseq
  | swrDataDup buf =>
    exact reAcked_of_guarded (.inl rfl) lastAcked_sw (by simp +contextual [condSwrDataDup]) h
  | swrFinDup buf =>
    exact reAcked_of_guarded (.inl rfl) lastAcked_sw (by simp +contextual [condSwrFinDup]) h
  | swrClosedReack c buf =>
    exact reAcked_of_guarded (.inr rfl) lastAcked_sw (by simp +contextual [condSwrClosedReack]) h
  | gbrDataOoo buf =>
    exact reAcked_of_guarded (.inl rfl) lastAcked_gbn (by simp +contextual [condGbrDataOoo]) h
  | gbrFinOoo buf =>
    exact reAcked_of_guarded (.inl rfl) lastAcked_gbn (by simp +contextual [condGbrFinOoo]) h
  | gbrClosedReack c buf =>
    exact reAcked_of_guarded (.inr rfl) lastAcked_gbn (by simp +contextual [condGbrClosedReack]) h

/-! ## What an operation at a port can do -/

/-- An operation at a port that goes on has run a transition row of its event (43_session_control R182). -/
theorem port_row {i : Instr} {s t : State} (hp : (encode i).1 = .frame ∨ (encode i).1 = .cmd)
    (hr : ∀ code, i ≠ .cmdReserved code) (h : exec i s = .next t) :
    ∃ j, isRow j = true ∧ eventOf j = eventOf i ∧ exec j s = .next t := by
  have frame (buf : List Byte) (he : eventOf i = 5#3) (hb : rxFrame buf s = .next t) :
      ∃ j, isRow j = true ∧ eventOf j = eventOf i ∧ exec j s = .next t := by
    obtain ⟨j, c, hj, hw, hx⟩ := rxFrame_row hb
    have hd : encode j = (.dw, dwByte (roleNow s) (modeNow s) 5 c :: buf) := Prod.ext (by simpa [isRow] using hj) hw
    exact ⟨j, hj, by rw [eventOf_of_word hd, he, dwEv_dwByte]; rfl, hx⟩
  cases i with
  | frameData | frameAck | frameFin | frameIllegal => exact frame _ rfl h
  | cmdOpen =>
    simp only [exec, execCmdOpen] at h
    split_ifs at h
    · exact ⟨.evOpenBadstate (roleNow s) (modeNow s), rfl, eventOf_of_word rfl |>.trans (by simp; rfl), h⟩
    · exact ⟨.evOpen (roleNow s) (modeNow s), rfl, eventOf_of_word rfl |>.trans (by simp; rfl), h⟩
    · exact ⟨.evOpenBadcfg (roleNow s) (modeNow s), rfl, eventOf_of_word rfl |>.trans (by simp; rfl), h⟩
  | cmdTxPush p =>
    simp only [exec, execCmdTxPush] at h
    split at h
    · exact ⟨.txRefuse (roleNow s) (modeNow s) .push p, rfl, eventOf_of_word rfl |>.trans (by simp; rfl), h⟩
    · split at h
      · exact ⟨.swsPush p, rfl, rfl, h⟩
      · exact ⟨.gbsPush p, rfl, rfl, h⟩
  | cmdTxClose =>
    simp only [exec, execCmdTxClose] at h
    split at h
    · exact ⟨.txRefuse (roleNow s) (modeNow s) .close [], rfl, eventOf_of_word rfl |>.trans (by simp; rfl), h⟩
    · split at h
      · exact ⟨.swsClose, rfl, rfl, h⟩
      · exact ⟨.gbsClose, rfl, rfl, h⟩
  | cmdAbort cause =>
    simp only [exec, execCmdAbort] at h
    split_ifs at h
    · exact ⟨.evAbort (roleNow s) (modeNow s) cause, rfl, eventOf_of_word rfl |>.trans (by simp; rfl), h⟩
    · exact ⟨.evAbortBadstate (roleNow s) (modeNow s) cause, rfl, eventOf_of_word rfl |>.trans (by simp; rfl), h⟩
  | cmdReserved code => exact absurd rfl (hr code)
  | _ => simp [encode] at hp

/-- The inversion of `exec`: what an operation that goes on has done is the effect of a row or a unit operation, the
operation itself or a row of the same event. -/
theorem exec_effect {i : Instr} {s t : State} (h : exec i s = .next t) :
    ∃ j, RowEffect s j t ∧ (j = i ∨ isRow j = true ∧ eventOf j = eventOf i) := by
  by_cases hp : (encode i).1 = .frame ∨ (encode i).1 = .cmd
  · by_cases hr : ∃ code, i = .cmdReserved code
    · obtain ⟨code, rfl⟩ := hr
      cases h
      exact ⟨.cmdReserved code, .refused _, .inl rfl⟩
    · obtain ⟨j, hj, he, hx⟩ := port_row hp (not_exists.mp hr) h
      have hd : (encode j).1 = .dw := by simpa [isRow] using hj
      exact ⟨j, rowEffect_of_exec (by simp [hd]) (by simp [hd]) hx, .inr ⟨hj, he⟩⟩
  · obtain ⟨hf, hk⟩ := not_or.mp hp
    exact ⟨i, rowEffect_of_exec hf hk h, .inl rfl⟩

/-- `finishIfDrained` writes the control state at most. -/
theorem finishIfDrained_eq_setSt (s : State) : ∃ c, finishIfDrained s = setSt c s := by
  unfold finishIfDrained
  split
  · exact ⟨_, rfl⟩
  · exact ⟨s.blk.st, rfl⟩

/-- An operation leaves the parameters and the agenda as they are. -/
theorem rowEffect_frame {i : Instr} {s t : State} (h : RowEffect s i t) :
    t.hw = s.hw ∧ t.env.agenda = s.env.agenda := by
  cases h with
  | gbsAcked buf hc =>
    obtain ⟨c, hdone⟩ := finishIfDrained_eq_setSt (retire (dec s buf).seqNum s)
    rw [hdone]
    exact ⟨rfl, rfl⟩
  | _ => exact ⟨rfl, rfl⟩

/-! ## What a step of an endpoint driven through its ports takes up -/

/-- A command that arbitration takes is an ABORT, or no TIMEOUT is enabled (43_session_control R181). -/
theorem arbitrate_command {s : State} {c : HostCmd} {rest : List HostCmd} (h : arbitrate s = .command c rest) :
    c.isAbort = true ∨ timeoutEnabled s = false := by
  have other (ho : takeOther s = .command c rest) : timeoutEnabled s = false := by
    unfold takeOther at ho
    split at ho
    · cases ho
    · split at ho
      · cases ho
      next hte => simpa using hte
  unfold arbitrate at h
  split at h
  · split at h
    next ha => cases h; exact .inl ha
    next => exact .inr (other h)
  · exact .inr (other h)

/-- The word of an event taken: a datagram, a command, or the TIMEOUT dispatch word. -/
theorem fetchTaken_cases {k : Taken} {s u : State} {f : Format} {bs : List Byte} (h : fetchTaken k s = .word f bs u) :
    f = .frame ∨ (∃ c rest, k = .command c rest ∧ f = .cmd ∧ bs = cmdWord c) ∨
      (f = .dw ∧ ∃ w, bs = [w] ∧ dwEv w = 6#3) := by
  cases k with
  | command c rest => cases h; exact .inr (.inl ⟨c, rest, rfl, rfl, rfl⟩)
  | frame buf rest => cases h; exact .inl rfl
  | timeout => cases h; exact .inr (.inr ⟨rfl, _, rfl, dwEv_dwByte ..⟩)
  | nothing => cases h

/-- The words an endpoint driven through its ports takes up: a datagram, a command, TIMEOUT or TICK. A command other than
ABORT is taken up with a TIMEOUT enabled only where the environment picks it. -/
def PortWord (s : State) (f : Format) (bs : List Byte) : Prop :=
  f = .frame ∨
    (∃ c, f = .cmd ∧ bs = cmdWord c ∧
      (c.isAbort = true ∨ timeoutEnabled s = false ∨ s.env.agenda.head? = some (.pick .command))) ∨
    (f = .dw ∧ ∃ w, bs = [w] ∧ (dwEv w = 6#3 ∨ dwEv w = 7#3))

theorem fetch_ports {s u : State} {f : Format} {bs : List Byte} (hn : NoIssue s.env.agenda)
    (h : fetch s = .word f bs u) : PortWord s f bs := by
  have served {s' : State} (hb : timeoutEnabled s' = timeoutEnabled s)
      (hf : fetchTaken (arbitrate s') s' = .word f bs u) : PortWord s f bs := by
    rcases fetchTaken_cases hf with hf | ⟨c, rest, hk, hf, hw⟩ | ⟨hf, w, hw, he⟩
    · exact .inl hf
    · exact .inr (.inl ⟨c, hf, hw, (arbitrate_command hk).imp id fun ht => .inl (hb ▸ ht)⟩)
    · exact .inr (.inr ⟨hf, w, hw, .inl he⟩)
  unfold fetch at h
  split at h
  · exact served rfl h
  next m rest ha =>
    cases m with
    | arrive | command | csrRead | csrWrite | reset => cases h
    | tick => cases h; exact .inr (.inr ⟨rfl, _, rfl, .inr (dwEv_dwByte ..)⟩)
    | serve => exact served (s' := { s with env := { s.env with agenda := rest } }) rfl h
    | pick src =>
      rcases fetchTaken_cases h with hf | ⟨c, tl, hk, hf, hw⟩ | ⟨hf, w, hw, he⟩
      · exact .inl hf
      · have hsrc : src = .command := by
          cases src with
          | command => rfl
          | frame => simp only [offered] at hk; split at hk <;> cases hk
          | timeout => simp only [offered] at hk; split at hk <;> cases hk
        exact .inr (.inl ⟨c, hf, hw, .inr (.inr (by simp [ha, hsrc]))⟩)
      · exact .inr (.inr ⟨hf, w, hw, .inl he⟩)
    | issue f' bs' => exact absurd (ha ▸ List.mem_cons_self) (hn f' bs')

/-- A happening that is complete when it is taken up writes the block by a reset or a register write only. -/
theorem fetch_still {s t : State} (h : fetch s = .still t) :
    t.hw = s.hw ∧ (∀ m ∈ t.env.agenda, m ∈ s.env.agenda) ∧
      (t.blk = s.blk ∨ t.blk = resetBlock ∨ ∃ c : CfgRegs, t.blk = { s.blk with cfg := c }) := by
  unfold fetch at h
  split at h
  · rw [fetchTaken_still h]
    exact ⟨rfl, fun _ hm => hm, .inl rfl⟩
  next m rest ha =>
    have tail : ∀ x ∈ rest, x ∈ s.env.agenda := fun x hx => ha ▸ List.mem_cons_of_mem m hx
    cases m with
    | arrive | command | csrRead => cases h; exact ⟨rfl, tail, .inl rfl⟩
    | csrWrite n v => cases h; exact ⟨rfl, tail, .inr (.inr ⟨_, rfl⟩)⟩
    | reset => cases h; exact ⟨rfl, tail, .inr (.inl rfl)⟩
    | serve | pick => rw [fetchTaken_still h]; exact ⟨rfl, tail, .inl rfl⟩
    | tick | issue => cases h

/-- A command word decodes to a command; an ABORT's handles the event ABORT. -/
theorem decodeCmdWord_event {c : HostCmd} {i : Instr} (h : decodeCmdWord (cmdWord c) = .ok i) :
    (encode i).1 = .cmd ∧ (c.isAbort = true → eventOf i = 4#3) := by
  simp only [decodeCmdWord, cmdWord] at h
  by_cases h4 : c.code = 4
  · simp [h4] at h
    subst h
    exact ⟨rfl, fun _ => rfl⟩
  · have ha : c.isAbort ≠ true := by simpa [HostCmd.isAbort] using h4
    refine ⟨?_, fun hc => absurd hc ha⟩
    split_ifs at h <;> injection h with h <;> subst h <;> rfl

/-- The operation a dispatch word is in a state is one of the word's rows. -/
theorem decodeIn_dw {s : State} {w : Byte} {ops : List Byte} {i : Instr} (h : decodeIn s .dw (w :: ops) = .ok i) :
    i ∈ dwRows w ops := by
  simp only [decodeIn] at h
  split at h
  next j hj => cases h; exact List.mem_of_find?_eq_some hj
  next =>
    simp only [decode, decodeDwWord] at h
    split at h
    · cases h
    next hd => cases h; simp [hd]

/-- A step of an endpoint driven through its ports: a happening that is complete, or an operation that is no unit
operation, run with the block as it stands. A command that can send is run only where no TIMEOUT is enabled, in an order
of service that keeps the place of R181. -/
theorem step_ports {s t : State} (hn : NoIssue s.env.agenda) (h : step s = .next t) :
    fetch s = .still t ∨
      ∃ u i, (u.hw = s.hw ∧ u.blk = s.blk ∧ ∀ m ∈ u.env.agenda, m ∈ s.env.agenda) ∧ exec i u = .next t ∧
        (encode i).1 ≠ .tm ∧ (KeepsPriority s → HandlesSend i → timeoutEnabled s = false) := by
  rcases step_next h with hs | ⟨f, bs, u, i, hf, hd, hx⟩
  · exact .inl hs
  obtain ⟨hhw, hblk, -, hag⟩ := fetch_word hf
  refine .inr ⟨u, i, ⟨hhw, hblk, hag⟩, hx, ?_⟩
  rcases fetch_ports hn hf with rfl | ⟨c, rfl, rfl, hc⟩ | ⟨rfl, w, rfl, he⟩
  · have hi : (encode i).1 = .frame := by
      cases hd
      rcases frameWord_cases bs with ⟨_, _, _, e⟩ | ⟨_, _, e⟩ | ⟨_, _, e⟩ | e <;> rw [e] <;> rfl
    refine ⟨by simp [hi], fun _ hsend => ?_⟩
    simp [HandlesSend, eventOf_of_frame hi] at hsend
  · obtain ⟨hi, habort⟩ := decodeCmdWord_event hd
    refine ⟨by simp [hi], fun hkeep hsend => ?_⟩
    rcases hc with ha | ht | hpick
    · simp [HandlesSend, habort ha] at hsend
    · exact ht
    · exact hkeep hpick
  · obtain ⟨hrow, hev⟩ := dwRows_event w [] i (decodeIn_dw hd)
    have hi : (encode i).1 = .dw := by simpa [isRow] using hrow
    refine ⟨by simp [hi], fun _ hsend => ?_⟩
    rcases he with he | he <;> simp [HandlesSend, hev, he] at hsend

end Sys2Proof.Proofs
end

section
/-! # The invariant (O49, O50)

`BlockInv` reads the session part of the block only, and of the queue its numbers and frames only (`SameSession`); what is
left are the rows that open, end, send, acknowledge and accept, one lemma each. -/

namespace Sys2Proof.Proofs

open Sys2Proof Sys2Proof.Machine Sys2Proof.Safety

/-! ## What the invariant reads -/

/-- The outstanding segments of a queue, without their timers. -/
def outstanding (q : List Entry) : List (Half × List Byte) := q.map (fun e => (e.seq, e.frame))

/-- Two blocks that agree in all that the invariant reads: time, deadlines, registers and diagnostics may differ. -/
structure SameSession (k k' : Block) : Prop where
  ses : k'.ses = k.ses
  st : k'.st = k.st
  b : k'.b = k.b
  base : k'.base = k.base
  nxt : k'.nxt = k.nxt
  rtx : outstanding k'.rtx = outstanding k.rtx
  fin : k'.fin = k.fin
  expected : k'.expected = k.expected
  eos : k'.eos = k.eos

theorem outstanding_length {q q' : List Entry} (h : outstanding q' = outstanding q) : q'.length = q.length := by
  simpa [outstanding] using congrArg List.length h

theorem outstanding_getElem? {q q' : List Entry} (h : outstanding q' = outstanding q) {i : Nat} {e : Entry}
    (he : q'[i]? = some e) : ∃ e₀, q[i]? = some e₀ ∧ e.seq = e₀.seq ∧ e.frame = e₀.frame := by
  have hi : (outstanding q)[i]? = some (e.seq, e.frame) := by rw [← h]; simp [outstanding, he]
  simp only [outstanding, List.getElem?_map, Option.map_eq_some_iff, Prod.mk.injEq] at hi
  obtain ⟨e₀, h₀, hs, hf⟩ := hi
  exact ⟨e₀, h₀, hs.symm, hf.symm⟩

/-- Re-arming changes no segment. -/
theorem outstanding_map_armEntry (s : State) (q : List Entry) : outstanding (q.map (armEntry s)) = outstanding q := by
  simp [outstanding, armEntry]

/-- The invariant carries over to a block that agrees in what it reads. -/
theorem sameSession_blockInv {hw : Config.Params} {k k' : Block} (hk : BlockInv hw k) (h : SameSession k k') :
    BlockInv hw k' := by
  have hlen : k'.rtx.length = k.rtx.length := outstanding_length h.rtx
  have hnil : k'.rtx = [] ↔ k.rtx = [] := by rw [← List.length_eq_zero_iff, hlen, List.length_eq_zero_iff]
  constructor
  case ses => rw [h.st, h.ses]; exact hk.ses
  case role =>
    constructor
    · rw [h.st, h.ses]; exact hk.role.sender
    · rw [h.st, h.ses]; exact hk.role.receiver
    · rw [h.st, h.ses]; exact hk.role.awaiting
  case quiet => rw [h.st, hnil]; exact hk.quiet
  case entries =>
    intro e he
    obtain ⟨i, hi⟩ := List.mem_iff_getElem?.mp he
    obtain ⟨e₀, h₀, hs, hf⟩ := outstanding_getElem? h.rtx hi
    obtain ⟨flag, p, hflag, hpre, hframe⟩ := hk.entries e₀ (List.mem_of_getElem? h₀)
    exact ⟨flag, p, hflag, by rw [h.ses, hs]; exact hpre, by rw [h.ses, hs, hf]; exact hframe⟩
  case done => rw [h.st, h.fin]; exact hk.done
  case sws =>
    rw [h.ses]
    intro hr hm
    obtain ⟨hready, hawait, hunused⟩ := hk.sws hr hm
    constructor
    · rw [h.st, h.fin, hnil]; exact hready
    · rw [h.st]
      intro hst
      obtain ⟨e, hq, hseq⟩ := hawait hst
      obtain ⟨e', hq'⟩ := List.length_eq_one_iff.mp (hlen.trans (by rw [hq]; rfl))
      obtain ⟨e₀, h₀, hs, -⟩ := outstanding_getElem? (i := 0) h.rtx (by rw [hq']; rfl)
      rw [hq] at h₀
      cases h₀
      exact ⟨e', hq', by rw [hs, hseq, h.b]⟩
    · rw [h.base, h.nxt]; exact hunused
  case gbs =>
    rw [h.ses]
    intro hr hm
    obtain ⟨hcount, hwindow, hnumbers, hranges, hfin, hunused⟩ := hk.gbs hr hm
    constructor
    · rw [h.st, hlen, h.nxt, h.base, h.ses]; exact hcount
    · rw [h.st, hlen, h.ses]; exact hwindow
    · rw [h.st, h.base, h.ses]
      intro hst i e he
      obtain ⟨e₀, h₀, hs, -⟩ := outstanding_getElem? h.rtx he
      rw [hs]
      exact hnumbers hst i e₀ h₀
    · rw [h.st, h.base, h.nxt, h.ses]; exact hranges
    · rw [h.st, h.fin, ne_eq, hnil]; exact hfin
    · rw [h.b]; exact hunused
  case rcv =>
    rw [h.ses]
    intro hr
    obtain ⟨hexp, hlisten, hclosed, hidle⟩ := hk.rcv hr
    constructor
    · rw [h.st, h.expected, h.ses]; exact hexp
    · rw [h.st, h.eos]; exact hlisten
    · rw [h.st, h.eos]; exact hclosed
    · rw [h.b, h.base, h.nxt, h.fin]; exact hidle
  case snd => rw [h.ses, h.expected, h.eos]; exact hk.snd

/-! ## Reset and opening -/

/-- A block in IDLE with every variable at its reset value meets the invariant. -/
theorem resetBlock_inv (hw : Config.Params) : BlockInv hw resetBlock where
  ses h := absurd rfl h
  role := ⟨by simp [resetBlock], by simp [resetBlock], by simp [resetBlock]⟩
  quiet _ _ := rfl
  entries := by simp [resetBlock]
  done := by simp [resetBlock]
  sws _ _ := ⟨by simp [resetBlock], by simp [resetBlock], rfl, rfl⟩
  gbs _ h := by simp [resetBlock] at h
  rcv h := by simp [resetBlock] at h
  snd _ := ⟨rfl, rfl⟩

/-- What OPEN latches from a legal configuration is a legal session (43_session_control R183, R184). -/
theorem latch_legal {hw : Config.Params} {c : CfgRegs} (h : cfgLegal hw c = true) : SesLegal hw (latch c) := by
  simp only [cfgLegal, Bool.and_eq_true, Bool.or_eq_true, decide_eq_true_eq] at h
  obtain ⟨⟨⟨hmss0, hmss⟩, htimeout⟩, hmode⟩ := h
  constructor
  case mss => exact ⟨Nat.one_le_iff_ne_zero.mpr hmss0, hmss⟩
  case timeout =>
    intro hr
    obtain hrcv | ⟨ht0, ht⟩ := htimeout
    · rw [show c.role = .sender from hr] at hrcv; cases hrcv
    · exact ⟨Nat.one_le_iff_ne_zero.mpr ht0, ht⟩
  case sw =>
    intro hm
    have hc : c.mode = .sw := hm
    simp [latch, hc]
  case gbn =>
    intro hm
    have hc : c.mode = .gbn := hm
    obtain hsw | ⟨⟨⟨hw0, hwmax⟩, hlt⟩, hmax⟩ := hmode
    · rw [hc] at hsw; cases hsw
    · simp only [latch, hc]
      exact ⟨Nat.one_le_iff_ne_zero.mpr hw0, hwmax, hlt, hmax⟩

theorem modulus_pos {hw : Config.Params} {c : Ses} (h : SesLegal hw c) : 0 < c.m.toNat := by
  cases hm : c.mode with
  | sw => rw [(h.sw hm).2]; decide
  | gbn => have := h.gbn hm; omega

theorem modulus_le {hw : Config.Params} {c : Ses} (h : SesLegal hw c) : c.m.toNat ≤ 65536 := by
  cases hm : c.mode with
  | sw => rw [(h.sw hm).2]; decide
  | gbn => exact (h.gbn hm).2.2.2

/-- A session opened with a legal configuration meets the invariant (43_session_control R183). -/
theorem openedBlock_inv {hw : Config.Params} {k : Block} (h : cfgLegal hw k.cfg = true) :
    BlockInv hw (openedBlock k) := by
  have hses : SesLegal hw (openedBlock k).ses := latch_legal h
  have hrole : (openedBlock k).ses.role = k.cfg.role := rfl
  have hst : (openedBlock k).st = openState k.cfg.role := rfl
  constructor
  case ses => exact fun _ => hses
  case role =>
    cases hr : k.cfg.role <;> constructor <;> simp [hst, hrole, openState, hr]
  case quiet => exact fun _ _ => rfl
  case entries => simp [openedBlock]
  case done => cases hr : k.cfg.role <;> simp [hst, openState, hr]
  case sws =>
    exact fun hr _ => ⟨fun _ => ⟨rfl, rfl⟩, fun ha => by simp [hst, openState, hrole ▸ hr] at ha, rfl, rfl⟩
  case gbs =>
    intro _ _
    constructor
    · intro _; simp [openedBlock, seqDist]
    · intro _; exact Nat.zero_le _
    · intro _ i e he; simp [openedBlock] at he
    · exact fun _ => ⟨modulus_pos hses, modulus_pos hses⟩
    · intro _ hf; cases hf
    · rfl
  case rcv =>
    intro hr
    exact ⟨fun _ => modulus_pos hses, fun _ => rfl, fun hc => by simp [hst, openState, hrole ▸ hr] at hc,
      rfl, rfl, rfl, rfl⟩
  case snd => exact fun _ => ⟨rfl, rfl⟩

/-- A session that is torn down leaves an empty queue and the variables of its role (43_session_control R186). -/
theorem tearDown_inv {s : State} (cause : Byte) (hst : s.blk.st ≠ .idle) (hk : BlockInv s.hw s.blk) :
    BlockInv s.hw (tearDown cause s).blk where
  ses _ := hk.ses hst
  role := ⟨by simp [tearDown], by simp [tearDown], by simp [tearDown]⟩
  quiet _ _ := rfl
  entries := by simp [tearDown, cancelAll]
  done := by simp [tearDown]
  sws hr hm := ⟨by simp [tearDown], by simp [tearDown], (hk.sws hr hm).unused⟩
  gbs hr hm := ⟨by simp [tearDown], by simp [tearDown], by simp [tearDown], by simp [tearDown], by simp [tearDown],
    (hk.gbs hr hm).unused⟩
  rcv hr := ⟨fun _ => (hk.rcv hr).expected hst, by simp [tearDown], by simp [tearDown], (hk.rcv hr).idle⟩
  snd := hk.snd

/-! ## Sending -/

/-- In AWAITING_ACK the one window slot is taken. -/
theorem awaiting_rtx {hw : Config.Params} {k : Block} (hk : BlockInv hw k) (hst : k.st = .awaitingAck) :
    k.ses.role = .sender ∧ k.ses.mode = .sw ∧ k.ses.w = 1#16 ∧ ∃ e, k.rtx = [e] ∧ e.seq = seqOfBit k.b := by
  have hr : k.ses.role = .sender := hk.role.sender (.inr (.inl hst))
  have hm : k.ses.mode = .sw := hk.role.awaiting hst
  exact ⟨hr, hm, ((hk.ses (by simp [hst])).sw hm).1, (hk.sws hr hm).awaiting hst⟩

/-- A command is admitted in READY only: in AWAITING_ACK the window is full. -/
theorem admitted_ready {s : State} {kind : TxKind} {p : List Byte} (hk : BlockInv s.hw s.blk)
    (h : txAdmit kind p s = .ok) : s.blk.st = .ready := by
  obtain ⟨-, hst, -, -, hlen⟩ := (txAdmit_ok_iff _ _ _).mp h
  obtain hready | hawait := hst
  · exact hready
  · obtain ⟨-, -, hw, e, hq, -⟩ := awaiting_rtx hk hawait
    rw [hw, hq] at hlen
    exact absurd hlen (by simp)

/-- A frame made under ENCODE's preconditions is an entry of the session. -/
theorem entryOk_encodeSeg {c : Ses} {seq : Half} {flag : Byte} {p : List Byte} (d : BitVec 32)
    (hf : flag = flagData ∨ flag = flagFin) (h : encodePre c seq flag p = true) :
    EntryOk c { seq := seq, frame := encodeSeg c seq flag p, deadline := d } :=
  ⟨flag, p, hf, h, by simp [encodeSeg, h]⟩

/-- ENCODE's preconditions hold of a DATA segment with a legal number and payload. -/
theorem encodePre_data {c : Ses} {seq : Half} {p : List Byte} (hs : seq.toNat < c.m.toNat)
    (hp : p.length ≤ c.mss.toNat) : encodePre c seq flagData p = true := by
  simp [encodePre, hs, hp, flagData]

/-- ENCODE's preconditions hold of a FIN with a legal number. -/
theorem encodePre_fin {c : Ses} {seq : Half} (hs : seq.toNat < c.m.toNat) : encodePre c seq flagFin [] = true := by
  simp [encodePre, hs, flagFin]

theorem seqOfBit_lt (b : BitVec 1) : (seqOfBit b).toNat < 2 := by
  revert b; decide

/-- The stop-and-wait sender's segment in flight (10_state R46). -/
theorem swsSent_inv {hw : Config.Params} {k : Block} {e : Entry} (f : Bool) (r : CmdResult) (hk : BlockInv hw k)
    (hrole : k.ses.role = .sender) (hmode : k.ses.mode = .sw) (hst : k.st = .ready) (he : EntryOk k.ses e)
    (hseq : e.seq = seqOfBit k.b) :
    BlockInv hw { k with rtx := k.rtx ++ [e], st := .awaitingAck, fin := f, cmdErr := r } := by
  obtain ⟨hready, -, hunused⟩ := hk.sws hrole hmode
  have hq : k.rtx = [] := (hready hst).1
  constructor
  case ses => exact fun _ => hk.ses (by simp [hst])
  case role => exact ⟨fun _ => hrole, by simp, fun _ => hmode⟩
  case quiet => exact fun _ h => absurd rfl h
  case entries => simp [hq, he]
  case done => simp
  case sws => exact fun _ _ => ⟨by simp, fun _ => ⟨e, by simp [hq], hseq⟩, hunused⟩
  case gbs => simp [hmode]
  case rcv => simp [hrole]
  case snd => exact hk.snd

/-- An admitted command of a stop-and-wait sender that goes out leaves one segment in flight. -/
theorem swsSend_inv {s : State} {kind : TxKind} {p : List Byte} {flag : Byte} (f : Bool) (hk : BlockInv s.hw s.blk)
    (hrun : runsAs .sender .sw s = true) (hadm : txAdmit kind p s = .ok) (hflag : flag = flagData ∨ flag = flagFin)
    (hpre : (seqOfBit s.blk.b).toNat < s.blk.ses.m.toNat → encodePre s.blk.ses (seqOfBit s.blk.b) flag p = true) :
    BlockInv s.hw { s.blk with
      rtx := (sendSegment (seqOfBit s.blk.b) flag p s).blk.rtx, st := .awaitingAck, fin := f, cmdErr := .ok } := by
  obtain ⟨hrole, hmode⟩ := (runsAs_iff _ _ _).mp hrun
  have hst : s.blk.st = .ready := admitted_ready hk hadm
  have hm : s.blk.ses.m = 2#17 := ((hk.ses (by simp [hst])).sw hmode).2
  have hlt : (seqOfBit s.blk.b).toNat < s.blk.ses.m.toNat := by rw [hm]; exact seqOfBit_lt _
  exact swsSent_inv f .ok hk hrole hmode hst (entryOk_encodeSeg _ hflag (hpre hlt)) rfl

/-- The awaited acknowledgment frees the stop-and-wait sender (44_stop_and_wait R203). -/
theorem swsAcked_inv {s : State} (hk : BlockInv s.hw s.blk) (hst : s.blk.st = .awaitingAck) :
    BlockInv s.hw
      (setSt (if s.blk.fin then .done else .ready) (setB (flipBit s.blk.b) (cancelOldest 1 s))).blk := by
  obtain ⟨hrole, hmode, -, e, hq, -⟩ := awaiting_rtx hk hst
  have hnil : (cancelOldest 1 s).blk.rtx = [] := by simp [cancelOldest, hq]
  constructor
  case ses => exact fun _ => hk.ses (by simp [hst])
  case role => exact ⟨fun _ => hrole, by cases s.blk.fin <;> simp, by cases s.blk.fin <;> simp⟩
  case quiet => exact fun _ _ => hnil
  case entries =>
    intro x hx
    have hx' : x ∈ (cancelOldest 1 s).blk.rtx := hx
    rw [hnil] at hx'
    cases hx'
  case done => cases hf : s.blk.fin <;> simp [cancelOldest, hf]
  case sws =>
    exact fun _ _ => ⟨fun hready => ⟨hnil, by cases hf : s.blk.fin <;> simp_all [cancelOldest]⟩,
      by cases s.blk.fin <;> simp, (hk.sws hrole hmode).unused⟩
  case gbs =>
    intro _ hm
    rw [show s.blk.ses.mode = .gbn from hm] at hmode
    cases hmode
  case rcv =>
    intro hr
    rw [show s.blk.ses.role = .receiver from hr] at hrole
    cases hrole
  case snd => exact hk.snd

/-! ## Sequence arithmetic (00_scope R12) -/

theorem seqSucc_toNat (a : Half) {m : BitVec 17} (h0 : 0 < m.toNat) (hm : m.toNat ≤ 65536) :
    (seqSucc a m).toNat = (a.toNat + 1) % m.toNat := by
  have hlt := Nat.mod_lt (a.toNat + 1) h0
  simp only [seqSucc, BitVec.toNat_ofNat]
  exact Nat.mod_eq_of_lt (by omega)

theorem seqDist_cast (a b : Half) {m : BitVec 17} (h0 : 0 < m.toNat) :
    ((seqDist a b m : Nat) : Int) = ((a.toNat : Int) - b.toNat) % m.toNat :=
  Int.toNat_of_nonneg (Int.emod_nonneg _ (by omega))

theorem seqDist_lt (a b : Half) {m : BitVec 17} (h0 : 0 < m.toNat) : seqDist a b m < m.toNat := by
  have := Int.emod_lt_of_pos ((a.toNat : Int) - b.toNat) (b := m.toNat) (by omega)
  have := seqDist_cast a b h0
  omega

/-- `b` and the distance from `b` to `a` make `a`. -/
theorem add_seqDist (a b : Half) {m : BitVec 17} (h0 : 0 < m.toNat) :
    b.toNat + seqDist a b m ≡ a.toNat [MOD m.toNat] := by
  rw [← Int.natCast_modEq_iff, Nat.cast_add, seqDist_cast a b h0]
  calc (b.toNat : Int) + ((a.toNat : Int) - b.toNat) % m.toNat
      ≡ b.toNat + ((a.toNat : Int) - b.toNat) [ZMOD m.toNat] := (Int.mod_modEq _ _).add_left _
    _ = a.toNat := by ring

/-- The distance from `b` to `a` is the one number below the modulus that leads from `b` to `a`. -/
theorem seqDist_eq_of_add {a b : Half} {m : BitVec 17} {n : Nat} (hn : n < m.toNat)
    (h : b.toNat + n ≡ a.toNat [MOD m.toNat]) : seqDist a b m = n := by
  have h0 : 0 < m.toNat := by omega
  have hmod : seqDist a b m ≡ n [MOD m.toNat] :=
    Nat.ModEq.add_left_cancel' b.toNat ((add_seqDist a b h0).trans h.symm)
  exact Nat.ModEq.eq_of_lt_of_lt hmod (seqDist_lt a b h0) hn

/-! ## The Go-Back-N window (10_state R45) -/

/-- The next number is the one behind the window's last. -/
theorem gbn_nxt {k : Block} (h : GbnOk k) (hst : k.st = .ready) :
    k.base.toNat + k.rtx.length ≡ k.nxt.toNat [MOD k.ses.m.toNat] := by
  rw [h.count hst]
  exact add_seqDist _ _ (by have := (h.ranges hst).1; omega)

/-- A segment numbered `next` enters the window (45_go_back_n R231, R232). -/
theorem gbsSent_inv {hw : Config.Params} {k : Block} {e : Entry} (f : Bool) (r : CmdResult) (hk : BlockInv hw k)
    (hrole : k.ses.role = .sender) (hmode : k.ses.mode = .gbn) (hst : k.st = .ready)
    (hroom : k.rtx.length < k.ses.w.toNat) (he : EntryOk k.ses e) (hseq : e.seq = k.nxt) :
    BlockInv hw { k with rtx := k.rtx ++ [e], nxt := seqSucc k.nxt k.ses.m, fin := f, cmdErr := r } := by
  have hses : SesLegal hw k.ses := hk.ses (by simp [hst])
  have hgbn : GbnOk k := hk.gbs hrole hmode
  obtain ⟨hbase, hnxt⟩ := hgbn.ranges hst
  obtain ⟨-, -, hwm, hm⟩ := hses.gbn hmode
  have h0 : 0 < k.ses.m.toNat := modulus_pos hses
  have hsucc := seqSucc_toNat k.nxt h0 hm
  have hnext := gbn_nxt hgbn hst
  constructor
  case ses => exact fun _ => hses
  case role => exact ⟨fun _ => hrole, by simp [hst], by simp [hst]⟩
  case quiet => exact fun h => absurd hst h
  case entries =>
    intro x hx
    rcases List.mem_append.mp hx with hx | hx
    · exact hk.entries x hx
    · rw [List.mem_singleton.mp hx]; exact he
  case done => simp [hst]
  case sws => simp [hmode]
  case gbs =>
    intro _ _
    constructor
    case count =>
      intro _
      simp only [List.length_append, List.length_singleton]
      refine (seqDist_eq_of_add (by omega) ?_).symm
      rw [hsucc, ← Nat.add_assoc]
      exact (hnext.add_right 1).trans (Nat.mod_modEq _ _).symm
    case window => intro _; simpa using hroom
    case numbers =>
      intro _ i x hx
      rw [List.getElem?_append] at hx
      split at hx
      · exact hgbn.numbers hst i x hx
      next hi =>
        obtain ⟨hi0, rfl⟩ : i - k.rtx.length = 0 ∧ e = x := by
          simpa [List.getElem?_singleton] using hx
        have hi' : i = k.rtx.length := by omega
        rw [hi', hseq]
        exact (Nat.mod_eq_of_lt hnxt).symm.trans hnext.symm
    case ranges => exact fun _ => ⟨hbase, hsucc ▸ Nat.mod_lt _ h0⟩
    case fin => simp
    case unused => exact hgbn.unused
  case rcv => simp [hrole]
  case snd => exact hk.snd

/-- An admitted command of a Go-Back-N sender that goes out. -/
theorem gbsSend_inv {s : State} {kind : TxKind} {p : List Byte} {flag : Byte} (f : Bool) (hk : BlockInv s.hw s.blk)
    (hrun : runsAs .sender .gbn s = true) (hadm : txAdmit kind p s = .ok) (hflag : flag = flagData ∨ flag = flagFin)
    (hpre : s.blk.nxt.toNat < s.blk.ses.m.toNat → encodePre s.blk.ses s.blk.nxt flag p = true) :
    BlockInv s.hw { s.blk with
      rtx := (sendSegment s.blk.nxt flag p s).blk.rtx, nxt := seqSucc s.blk.nxt s.blk.ses.m, fin := f,
      cmdErr := .ok } := by
  obtain ⟨hrole, hmode⟩ := (runsAs_iff _ _ _).mp hrun
  have hst : s.blk.st = .ready := admitted_ready hk hadm
  obtain ⟨-, -, -, -, hroom⟩ := (txAdmit_ok_iff _ _ _).mp hadm
  have hlt := ((hk.gbs hrole hmode).ranges hst).2
  exact gbsSent_inv f .ok hk hrole hmode hst hroom (entryOk_encodeSeg _ hflag (hpre hlt)) rfl

/-- The window after a new acknowledgment of `a`: `d + 1` entries have left and `base` is `a + 1`
(45_go_back_n R233, R239). -/
theorem gbsRetired_ok {hw : Config.Params} {k : Block} {a : Half} {d : Nat} (hk : BlockInv hw k)
    (hrole : k.ses.role = .sender) (hmode : k.ses.mode = .gbn) (hst : k.st = .ready)
    (hd : d = seqDist a k.base k.ses.m) (hnew : d < k.rtx.length)
    (hfin : k.fin = true → k.rtx.drop (d + 1) ≠ []) :
    GbnOk { k with rtx := k.rtx.drop (d + 1), base := seqSucc a k.ses.m } := by
  have hses : SesLegal hw k.ses := hk.ses (by simp [hst])
  have hgbn : GbnOk k := hk.gbs hrole hmode
  obtain ⟨-, -, hwm, hm⟩ := hses.gbn hmode
  have h0 : 0 < k.ses.m.toNat := modulus_pos hses
  have hwin := hgbn.window hst
  have hsucc := seqSucc_toNat a h0 hm
  have hbase : (seqSucc a k.ses.m).toNat ≡ k.base.toNat + (d + 1) [MOD k.ses.m.toNat] := by
    rw [hsucc, ← Nat.add_assoc, hd]
    exact (Nat.mod_modEq _ _).trans ((add_seqDist a k.base h0).symm.add_right 1)
  constructor
  case count =>
    intro _
    simp only [List.length_drop]
    refine (seqDist_eq_of_add (by omega) ?_).symm
    calc (seqSucc a k.ses.m).toNat + (k.rtx.length - (d + 1))
        ≡ k.base.toNat + (d + 1) + (k.rtx.length - (d + 1)) [MOD k.ses.m.toNat] := hbase.add_right _
      _ = k.base.toNat + k.rtx.length := by omega
      _ ≡ k.nxt.toNat [MOD k.ses.m.toNat] := gbn_nxt hgbn hst
  case window => intro _; simp only [List.length_drop]; omega
  case numbers =>
    intro _ i x hx
    rw [List.getElem?_drop] at hx
    rw [hgbn.numbers hst _ x hx, ← Nat.add_assoc]
    exact (hbase.add_right i).symm
  case ranges => exact fun _ => ⟨hsucc ▸ Nat.mod_lt _ h0, (hgbn.ranges hst).2⟩
  case fin => exact fun _ => hfin
  case unused => exact hgbn.unused

/-- A new acknowledgment leaves a Go-Back-N sender in READY, or in DONE with an empty queue (45_go_back_n R233). -/
theorem gbsAcked_inv {s : State} {a : Half} (hk : BlockInv s.hw s.blk) (hrun : runsAs .sender .gbn s = true)
    (hst : s.blk.st = .ready) (hnew : ackIsNew a s = true) : BlockInv s.hw (finishIfDrained (retire a s)).blk := by
  obtain ⟨hrole, hmode⟩ := (runsAs_iff _ _ _).mp hrun
  have hses : SesLegal s.hw s.blk.ses := hk.ses (by simp [hst])
  have hd : ackDist a s < s.blk.rtx.length := by simpa [ackIsNew] using hnew
  have hentries : ∀ e ∈ s.blk.rtx.drop (ackDist a s + 1), EntryOk s.blk.ses e :=
    fun e he => hk.entries e (List.mem_of_mem_drop he)
  rw [retire_eq]
  unfold finishIfDrained
  split
  next hfin =>
    simp only [Bool.and_eq_true, decide_eq_true_eq] at hfin
    obtain ⟨hf, hq⟩ := hfin
    constructor
    case ses => exact fun _ => hses
    case role => exact ⟨fun _ => hrole, by simp, by simp⟩
    case quiet => exact fun _ _ => hq
    case entries => exact hentries
    case done => exact fun _ => hf
    case sws => simp [hmode]
    case gbs => exact fun _ _ => ⟨by simp, by simp, by simp, by simp, by simp, (hk.gbs hrole hmode).unused⟩
    case rcv => simp [hrole]
    case snd => exact hk.snd
  next hfin =>
    simp only [Bool.and_eq_true, decide_eq_true_eq, not_and] at hfin
    constructor
    case ses => exact fun _ => hses
    case role => exact ⟨fun _ => hrole, by simp [hst], by simp [hst]⟩
    case quiet => exact fun h => absurd hst h
    case entries => exact hentries
    case done => simp [hst]
    case sws => simp [hmode]
    case gbs => exact fun _ _ => gbsRetired_ok hk hrole hmode hst rfl hd hfin
    case rcv => simp [hrole]
    case snd => exact hk.snd

/-! ## Receiving -/

/-- What a receiver expects after a segment is a number of the session. -/
theorem nextExpected_lt {s : State} (hk : BlockInv s.hw s.blk) (hr : s.blk.ses.role = .receiver)
    (hst : s.blk.st = .listen) : (nextExpected s).toNat < s.blk.ses.m.toNat := by
  have hidle : s.blk.st ≠ .idle := by simp [hst]
  have hses : SesLegal s.hw s.blk.ses := hk.ses hidle
  have hexp := (hk.rcv hr).expected hidle
  cases hm : s.blk.ses.mode with
  | sw =>
    rw [nextExpected_sw hm]
    rw [(hses.sw hm).2] at hexp ⊢
    simp only [otherSeq]
    bv_omega
  | gbn =>
    rw [nextExpected_gbn hm, expectedSucc, seqSucc_toNat _ (modulus_pos hses) (modulus_le hses)]
    exact Nat.mod_lt _ (modulus_pos hses)

/-- A receiver that has accepted DATA still listens (44_stop_and_wait R211, 45_go_back_n R241). -/
theorem acceptData_inv {s : State} {x : Half} (d : Decoded) (hk : BlockInv s.hw s.blk)
    (hr : s.blk.ses.role = .receiver) (hst : s.blk.st = .listen) (hx : x.toNat < s.blk.ses.m.toNat) :
    BlockInv s.hw (acceptData x d s).blk := by
  obtain ⟨-, hlisten, -, hidle⟩ := hk.rcv hr
  rw [acceptData_eq]
  constructor
  case ses => exact hk.ses
  case role => exact ⟨hk.role.sender, hk.role.receiver, hk.role.awaiting⟩
  case quiet => exact hk.quiet
  case entries => exact hk.entries
  case done => exact hk.done
  case sws => simp [hr]
  case gbs => simp [hr]
  case rcv => exact fun _ => ⟨fun _ => hx, hlisten, by simp [hst], hidle⟩
  case snd => simp [hr]

/-- A receiver that has accepted the FIN is CLOSED with the end of stream signalled (44_stop_and_wait R213,
45_go_back_n R243). -/
theorem acceptFin_inv {s : State} {x : Half} (d : Decoded) (hk : BlockInv s.hw s.blk)
    (hr : s.blk.ses.role = .receiver) (hst : s.blk.st = .listen) (hx : x.toNat < s.blk.ses.m.toNat) :
    BlockInv s.hw (acceptFin x d s).blk := by
  have hq : s.blk.rtx = [] := hk.quiet (by simp [hst]) (by simp [hst])
  rw [acceptFin_eq]
  constructor
  case ses => exact fun _ => hk.ses (by simp [hst])
  case role => exact ⟨by simp, fun _ => hr, by simp⟩
  case quiet => exact fun _ _ => hq
  case entries => exact hk.entries
  case done => simp
  case sws => simp [hr]
  case gbs => simp [hr]
  case rcv => exact fun _ => ⟨fun _ => hx, by simp, fun _ => rfl, (hk.rcv hr).idle⟩
  case snd => simp [hr]

/-! ## Every step -/

/-- Every row and every unit operation but the Timeout Manager's issued by themselves keeps the block's invariant. -/
theorem rowEffect_keeps_blockInv {i : Instr} {s t : State} (hk : BlockInv s.hw s.blk) (htm : (encode i).1 ≠ .tm)
    (h : RowEffect s i t) : BlockInv s.hw t.blk := by
  cases h with
  | unchanged | result _ => exact hk
  | refused _ | raised _ | ticked _ | reAcked _ _ _ =>
    exact sameSession_blockInv hk ⟨rfl, rfl, rfl, rfl, rfl, rfl, rfl, rfl, rfl⟩
  | armed _ => exact absurd rfl htm
  | cancelled n d hi => exact absurd hi htm
  | opened hi hc =>
    simp only [condOpen, Bool.and_eq_true] at hc
    exact openedBlock_inv hc.2
  | tornDown r m cause hc =>
    simp only [condAbort, Bool.and_eq_true, decide_eq_true_eq] at hc
    exact tearDown_inv cause hc.1 hk
  | swsPushed p hc =>
    simp only [condSwsPush, Bool.and_eq_true, decide_eq_true_eq] at hc
    obtain ⟨-, -, -, hlen, -⟩ := (txAdmit_ok_iff _ _ _).mp hc.2
    exact swsSend_inv _ hk hc.1 hc.2 (.inl rfl) (fun hs => encodePre_data hs (hlen rfl))
  | swsClosed hc =>
    simp only [condSwsClose, Bool.and_eq_true, decide_eq_true_eq] at hc
    exact swsSend_inv _ hk hc.1 hc.2 (.inr rfl) encodePre_fin
  | swsAcked buf hc =>
    simp only [condSwsAckOk, Bool.and_eq_true, inState_iff] at hc
    exact swsAcked_inv hk hc.1.2
  | swsResent c e rest hm hst hq =>
    have hrtx : outstanding (setRetxSeen (resendHead e rest (raise c s))).blk.rtx = outstanding s.blk.rtx := by
      rw [hq]; rfl
    exact sameSession_blockInv hk ⟨rfl, rfl, rfl, rfl, rfl, hrtx, rfl, rfl, rfl⟩
  | gbsPushed p hc =>
    simp only [condGbsPush, Bool.and_eq_true, decide_eq_true_eq] at hc
    obtain ⟨-, -, -, hlen, -⟩ := (txAdmit_ok_iff _ _ _).mp hc.2
    exact gbsSend_inv _ hk hc.1 hc.2 (.inl rfl) (fun hs => encodePre_data hs (hlen rfl))
  | gbsClosed hc =>
    simp only [condGbsClose, Bool.and_eq_true, decide_eq_true_eq] at hc
    exact gbsSend_inv _ hk hc.1 hc.2 (.inr rfl) encodePre_fin
  | gbsAcked buf hc =>
    simp only [condGbsAck, Bool.and_eq_true, inState_iff] at hc
    obtain ⟨⟨⟨hrun, hst⟩, -⟩, hnew⟩ := hc
    exact gbsAcked_inv hk hrun hst hnew
  | gbsResent c hm hst =>
    exact sameSession_blockInv hk ⟨rfl, rfl, rfl, rfl, rfl, outstanding_map_armEntry _ _, rfl, rfl, rfl⟩
  | acceptedData buf hi hr hst hf hseq => exact acceptData_inv _ hk hr hst (nextExpected_lt hk hr hst)
  | acceptedFin buf hi hr hst hf hseq => exact acceptFin_inv _ hk hr hst (nextExpected_lt hk hr hst)

/-- Every operation but the Timeout Manager's issued by themselves keeps the block's invariant and leaves the parameters
and the agenda as they are. -/
theorem exec_keeps_blockInv {i : Instr} {s t : State} (hk : BlockInv s.hw s.blk) (htm : (encode i).1 ≠ .tm)
    (h : exec i s = .next t) : BlockInv t.hw t.blk ∧ t.hw = s.hw ∧ t.env.agenda = s.env.agenda := by
  obtain ⟨j, heff, hj⟩ := exec_effect h
  obtain ⟨hhw, hag⟩ := rowEffect_frame heff
  have hjtm : (encode j).1 ≠ .tm := by
    rcases hj with rfl | ⟨hrow, -⟩
    · exact htm
    · have hd : (encode j).1 = .dw := by simpa [isRow] using hrow
      simp [hd]
  exact ⟨hhw ▸ rowEffect_keeps_blockInv hk hjtm heff, hhw, hag⟩

/-- A happening that is complete when it is taken up keeps the block's invariant. -/
theorem still_keeps_blockInv {s t : State} (hk : BlockInv s.hw s.blk) (h : fetch s = .still t) :
    BlockInv t.hw t.blk := by
  obtain ⟨hhw, -, hblk⟩ := fetch_still h
  rw [hhw]
  rcases hblk with hb | hb | ⟨c, hb⟩ <;> rw [hb]
  · exact hk
  · exact resetBlock_inv _
  · exact sameSession_blockInv hk ⟨rfl, rfl, rfl, rfl, rfl, rfl, rfl, rfl, rfl⟩

/-- Settles O49: the variables of IDLE are at their reset values and nothing is issued. -/
theorem resetMeetsInvariant : Obligations.ResetMeetsInvariant := by
  unfold Obligations.ResetMeetsInvariant
  exact fun p => ⟨resetBlock_inv p, fun f bs => List.not_mem_nil⟩

/-- Settles O50, by the cases of a step at the ports and of the row it runs. -/
theorem stepKeepsInvariant : Obligations.StepKeepsInvariant := by
  unfold Obligations.StepKeepsInvariant
  intro s t ⟨hk, hn⟩ h
  rcases step_ports hn h with hs | ⟨u, i, ⟨hhw, hblk, hag⟩, hx, htm, -⟩
  · obtain ⟨-, hag, -⟩ := fetch_still hs
    exact ⟨still_keeps_blockInv hk hs, fun f bs hm => hn f bs (hag _ hm)⟩
  · obtain ⟨hinv, -, hag'⟩ := exec_keeps_blockInv (hhw ▸ hblk ▸ hk) htm hx
    exact ⟨hinv, fun f bs hm => hn f bs (hag _ (hag' ▸ hm))⟩

end Sys2Proof.Proofs
end

section
/-! # Ports, registers and writers (O20, O42, O53) -/

namespace Sys2Proof.Proofs

open Sys2Proof Sys2Proof.Machine Sys2Proof.Safety

/-! ## `tx_ready` (10_state R41) -/

theorem txReady_iff (s : State) :
    txReady s = true ↔ s.blk.st = .ready ∧ s.blk.fin = false ∧ s.blk.rtx.length < s.blk.ses.w.toNat := by
  simp [txReady, and_assoc]

/-- A command with a legal payload is admitted exactly when `tx_ready` holds. -/
theorem txReady_iff_admitted {s : State} {kind : TxKind} {p : List Byte} (hk : BlockInv s.hw s.blk)
    (hp : kind = .push → p.length ≤ s.blk.ses.mss.toNat) : txReady s = true ↔ txAdmit kind p s = .ok := by
  rw [txReady_iff]
  constructor
  · rintro ⟨hst, hfin, hlen⟩
    exact (txAdmit_ok_iff _ _ _).mpr ⟨hk.role.sender (.inl hst), .inl hst, hfin, hp, hlen⟩
  · intro hadm
    obtain ⟨-, -, hfin, -, hlen⟩ := (txAdmit_ok_iff _ _ _).mp hadm
    exact ⟨admitted_ready hk hadm, hfin, hlen⟩

/-- Settles O20: with a full window in AWAITING_ACK, the checks of R189 are those of R41. -/
theorem txReadyIffAdmitted : Obligations.TxReadyIffAdmitted := by
  unfold Obligations.TxReadyIffAdmitted
  exact fun s hk => ⟨txReady_iff s, txReady_iff_admitted hk nofun, fun p hp => txReady_iff_admitted hk fun _ => hp⟩

/-! ## Moments that are complete when they are taken up -/

/-- The state after the first moment has left the agenda. -/
def withAgenda (rest : List Moment) (s : State) : State := { s with env := { s.env with agenda := rest } }

theorem fetch_cons {s : State} {m : Moment} {rest : List Moment} (h : s.env.agenda = m :: rest) :
    fetch s = fetchMoment m (withAgenda rest s) := by
  simp only [fetch, h, withAgenda]

theorem step_of_still {s t : State} (h : fetch s = .still t) : step s = .next t := by
  simp only [step, h]

/-! ## Registers (10_state R42, R43) -/

/-- Where the fields of a `STATUS` word stand, whatever they hold (10_state R42). -/
theorem statusFields (lastCause abortCause : BitVec 8) (cmdErr st : BitVec 3)
    (retx ooo corrupt eos fin ready : Bool) :
    let v := lastCause ++ abortCause ++ 0#1 ++ cmdErr ++ 0#1 ++ boolBit retx ++ boolBit ooo ++ boolBit corrupt ++ 0#2
      ++ boolBit eos ++ boolBit fin ++ boolBit ready ++ st
    v.extractLsb' 0 3 = st ∧ v.getLsbD 3 = ready ∧ v.getLsbD 4 = fin ∧ v.getLsbD 5 = eos ∧ v.extractLsb' 6 2 = 0
    ∧ v.getLsbD 8 = corrupt ∧ v.getLsbD 9 = ooo ∧ v.getLsbD 10 = retx ∧ v.getLsbD 11 = false
    ∧ v.extractLsb' 12 3 = cmdErr ∧ v.getLsbD 15 = false ∧ v.extractLsb' 16 8 = abortCause
    ∧ v.extractLsb' 24 8 = lastCause := by
  simp [-Nat.reduceAdd, -BitVec.getLsbD_eq_getElem, boolBit, BitVec.getLsbD_append,
    BitVec.extractLsb'_append_eq_of_le, BitVec.extractLsb'_append_eq_of_add_le]

/-- A register narrower than 32 bits reads as its value. -/
theorem zeroExtend_toNat {n : Nat} (v : BitVec n) (h : n ≤ 32) : (v.zeroExtend 32).toNat = v.toNat :=
  BitVec.toNat_setWidth_of_le h

theorem csrValue_above {n : Nat} (h : 13 < n) (s : State) : csrValue n s = 0 := by
  obtain ⟨m, rfl⟩ := Nat.exists_eq_add_of_lt h
  rw [show 13 + m + 1 = m + 14 by omega]
  rfl

theorem cfgAfterWrite_above {n : Nat} (h : 7 ≤ n) (v : BitVec 32) (c : CfgRegs) : cfgAfterWrite n v c = c := by
  obtain ⟨m, rfl⟩ := Nat.exists_eq_add_of_le' h
  rfl

/-- The low bit of a written word is 0 exactly when the word is even. -/
theorem truncate_one_eq_zero_iff (v : BitVec 32) : v.truncate 1 = 0#1 ↔ v.toNat % 2 = 0 := by
  rw [← BitVec.toNat_inj]
  simp

theorem roleOfBit_truncate (v : BitVec 32) :
    roleOfBit (v.truncate 1) = if v.toNat % 2 = 0 then .sender else .receiver :=
  if_congr (truncate_one_eq_zero_iff v) rfl rfl

theorem modeOfBit_truncate (v : BitVec 32) : modeOfBit (v.truncate 1) = if v.toNat % 2 = 0 then .sw else .gbn :=
  if_congr (truncate_one_eq_zero_iff v) rfl rfl

theorem algOfBit_truncate (v : BitVec 32) : algOfBit (v.truncate 1) = if v.toNat % 2 = 0 then .csum16 else .crc16 :=
  if_congr (truncate_one_eq_zero_iff v) rfl rfl

/-- Settles O42, by the moments of the agenda and the numbers of the registers. -/
theorem portsAndRegisters : Obligations.PortsAndRegisters := by
  unfold Obligations.PortsAndRegisters
  refine ⟨?arrive, ?command, ?read, ?values, ?status, ?write⟩
  case arrive => exact fun s buf rest h => step_of_still (fetch_cons h)
  case command => exact fun s c rest h => step_of_still (fetch_cons h)
  case read => exact fun s n rest h => step_of_still (fetch_cons h)
  case values =>
    intro s
    refine ⟨?_, ?_, ?_, ?_, ?_, ?_, rfl, rfl, ?_, ?_, ?_, ?_, ?_, fun n h => csrValue_above h s⟩
    case refine_10 => exact (zeroExtend_toNat _ (by decide)).trans (BitVec.toNat_ofNat ..)
    all_goals exact zeroExtend_toNat _ (by decide)
  case status => exact fun s => statusFields ..
  case write =>
    intro s n v rest h
    refine ⟨cfgAfterWrite n v s.blk.cfg, step_of_still (fetch_cons h), ?_, ?_, ?_, ?_, ?_, ?_, ?_,
      fun hn => cfgAfterWrite_above hn v _⟩ <;> rintro rfl
    case refine_1 => rw [← roleOfBit_truncate]; rfl
    case refine_2 => rw [← modeOfBit_truncate]; rfl
    case refine_3 => rw [← algOfBit_truncate]; rfl
    all_goals rfl

/-! ## Writers -/

@[simp] theorem openedBlock_now (k : Block) : (openedBlock k).now = k.now := rfl

/-- Settles O53, by what each row and each unit operation writes. -/
theorem variablesAndWriters : Obligations.VariablesAndWriters := by
  unfold Obligations.VariablesAndWriters
  intro s t i hf hk h
  cases rowEffect_of_exec hf hk h with
  | unchanged | result _ | refused _ | raised _ | armed _ | cancelled _ _ _ => simp [sinkBytes]
  | ticked hi => simp [tickNow, sinkBytes, hi]
  | opened hi hc => simp [sinkBytes, hi]
  | tornDown r m cause hc => simp [tearDown, cancelAll, sinkBytes]
  | swsPushed p hc | swsClosed hc => simp [sendSegment_eq, sinkBytes, Effect.delivered]
  | swsAcked buf hc => simp [cancelOldest, sinkBytes]
  | swsResent c e rest hm hst hq => simp [resendHead_eq, sinkBytes, Effect.delivered]
  | gbsPushed p hc | gbsClosed hc => simp [sendNext, sendSegment_eq, sinkBytes, Effect.delivered]
  | gbsAcked buf hc =>
    obtain ⟨c, hdone⟩ := finishIfDrained_eq_setSt (retire (dec s buf).seqNum s)
    rw [hdone, retire_eq]
    simp [sinkBytes]
  | gbsResent c hm hst => simp [resendWindow_eq, sinkBytes, Effect.delivered, List.flatMap_map]
  | acceptedData buf hi hr hst hflag hseq => rcases hi with rfl | rfl <;> simp [acceptData_eq]
  | acceptedFin buf hi hr hst hflag hseq =>
    rcases hi with rfl | rfl <;> simp [acceptFin_eq, sinkBytes, Effect.delivered]
  | reAcked c hr hst => simp [sinkBytes, Effect.delivered]

end Sys2Proof.Proofs
end

section
/-! # The order of the deadlines (O58)

An operation drops oldest entries, lets time pass, adds one fresh entry, or leaves every entry freshly armed
(`QueueEffect`). Each of the four keeps the ages falling; the deadlines keep R47's order with them, because a segment is
sent only where the oldest timer has not expired, so that every age is below `T`. -/

namespace Sys2Proof.Proofs

open Sys2Proof Sys2Proof.Machine Sys2Proof.Safety

/-! ## Ages and deadlines, modulo 2^32 -/

theorem age_of_armed {now t : BitVec 32} {e : Entry} (h : e.deadline = now + t) : age now t e = 0 := by
  simp [age, h]

/-- An entry ages by one with each tick, short of a full turn of the counter. -/
theorem age_tick {now t : BitVec 32} {e : Entry} (h : age now t e < 2 ^ 32 - 1) :
    age (now + 1#32) t e = age now t e + 1 := by
  unfold age at *
  bv_omega

/-- Two deadlines are as far apart as the ages. -/
theorem deadline_sub {now t : BitVec 32} {e e' : Entry} (h : age now t e' ≤ age now t e) :
    (e'.deadline - e.deadline).toNat = age now t e - age now t e' := by
  unfold age at *
  bv_omega

/-- Within the service bound a timer has expired when it is `T` ticks old or older (42_timeout_manager R162). -/
theorem expired_iff_age {now t : BitVec 32} {e : Entry} (ht : t.toNat ≤ 2 ^ 31 - 1)
    (hs : age now t e < t.toNat + 2 ^ 31) : expired now e.deadline = true ↔ t.toNat ≤ age now t e := by
  unfold age at *
  simp only [expired, decide_eq_true_eq]
  bv_omega

/-! ## The two orders over the entries -/

theorem agesFall_iff (k : Block) :
    AgesFall k ↔ k.rtx.Pairwise (fun e e' => age k.now k.ses.t e' ≤ age k.now k.ses.t e) :=
  List.pairwise_map

theorem deadlineOrder_iff (k : Block) :
    DeadlineOrder k ↔ k.rtx.Pairwise (fun e e' => (e'.deadline - e.deadline).toNat < 2 ^ 31) :=
  List.pairwise_map

/-- The head of the queue is the oldest. -/
theorem age_le_head {k : Block} {e₀ : Entry} {rest : List Entry} (h : AgesFall k) (hq : k.rtx = e₀ :: rest) :
    ∀ e ∈ k.rtx, age k.now k.ses.t e ≤ age k.now k.ses.t e₀ := by
  rw [agesFall_iff, hq] at h
  rw [hq]
  exact List.forall_mem_cons.mpr ⟨le_refl _, (List.pairwise_cons.mp h).1⟩

/-- For ages below 2^31 the deadlines are in order where the ages fall (10_state R47; log 25). -/
theorem deadlineOrder_of_agesFall {k : Block} (h : AgesFall k) (hlt : ∀ e ∈ k.rtx, age k.now k.ses.t e < 2 ^ 31) :
    DeadlineOrder k := by
  rw [agesFall_iff] at h
  rw [deadlineOrder_iff]
  refine h.imp_of_mem fun {e e'} he _ hle => ?_
  have := hlt e he
  rw [deadline_sub hle]
  omega

/-- Within the service bound, if any timer of the queue has expired the oldest has (42_timeout_manager R169). -/
theorem tmExpired_of_expired {s : State} {e : Entry} (h : AgesFall s.blk) (ht : s.blk.ses.t.toNat ≤ 2 ^ 31 - 1)
    (hserved : ServedInTime s.blk) (he : e ∈ s.blk.rtx) (hexp : expired s.blk.now e.deadline = true) :
    tmExpired s = true := by
  cases hq : s.blk.rtx with
  | nil => rw [hq] at he; cases he
  | cons e₀ rest =>
    have hold : s.blk.ses.t.toNat ≤ age s.blk.now s.blk.ses.t e := (expired_iff_age ht (hserved e he)).mp hexp
    have h₀ : e₀ ∈ s.blk.rtx := hq ▸ List.mem_cons_self
    simp only [tmExpired, hq]
    exact (expired_iff_age ht (hserved e₀ h₀)).mpr (hold.trans (age_le_head h hq e he))

/-! ## What an operation does to the queue -/

/-- What an operation can do to the queue and its timers; only one that handles a command to send (`sends`) adds an
entry. -/
inductive QueueEffect (k k' : Block) (sends : Prop) : Prop
  | retired (n : Nat) (hq : k'.rtx = k.rtx.drop n) (hnow : k'.now = k.now) (ht : k'.ses.t = k.ses.t)
  | aged (hq : k'.rtx = k.rtx) (hnow : k'.now = k.now + 1#32) (ht : k'.ses.t = k.ses.t)
  | sent (e : Entry) (hs : sends) (he : e.deadline = k.now + k.ses.t) (hq : k'.rtx = k.rtx ++ [e])
      (hnow : k'.now = k.now) (ht : k'.ses.t = k.ses.t)
  | armed (h : ∀ e ∈ k'.rtx, e.deadline = k'.now + k'.ses.t)

/-- Every operation but TM_ARM has one of the four effects on the queue. -/
theorem exec_queue {s t : State} {i : Instr} (hi : ∀ x, i ≠ .tmArm x) (hk : BlockInv s.hw s.blk)
    (h : exec i s = .next t) : QueueEffect s.blk t.blk (HandlesSend i) := by
  obtain ⟨j, heff, hj⟩ := exec_effect h
  have hev : eventOf j = eventOf i := hj.elim (fun e => e ▸ rfl) And.right
  have hsend (hs : HandlesSend j) : HandlesSend i := by rwa [HandlesSend, ← hev]
  cases heff with
  | unchanged | result _ | refused _ | raised _ | acceptedData _ _ _ _ _ _ | acceptedFin _ _ _ _ _ _ | reAcked _ _ _ =>
    exact .retired 0 rfl rfl rfl
  | ticked _ => exact .aged rfl rfl rfl
  | armed x =>
    rcases hj with rfl | ⟨hrow, -⟩
    · exact absurd rfl (hi _)
    · simp [isRow, encode] at hrow
  | cancelled n d _ => exact .retired n rfl rfl rfl
  | opened _ _ => exact .armed (by simp [openedBlock])
  | tornDown _ _ _ _ => exact .armed (by simp [tearDown, cancelAll])
  | swsPushed _ _ => exact .sent _ (hsend (.inl rfl)) rfl rfl rfl rfl
  | swsClosed _ => exact .sent _ (hsend (.inr rfl)) rfl rfl rfl rfl
  | gbsPushed _ _ => exact .sent _ (hsend (.inl rfl)) rfl rfl rfl rfl
  | gbsClosed _ => exact .sent _ (hsend (.inr rfl)) rfl rfl rfl rfl
  | swsAcked _ _ => exact .retired 1 rfl rfl rfl
  | swsResent c e rest _ hst hq =>
    obtain ⟨-, -, -, e', hone, -⟩ := awaiting_rtx hk hst
    rw [hq] at hone
    cases hone
    exact .armed (by simp [resendHead_eq])
  | gbsAcked buf _ =>
    obtain ⟨c, hdone⟩ := finishIfDrained_eq_setSt (retire (dec s buf).seqNum s)
    rw [hdone]
    exact .retired _ rfl rfl rfl
  | gbsResent c _ _ => exact .armed (by simp [resendWindow_eq, armEntry, armDeadline])

/-- Ages fall after every effect on the queue, short of a full turn of the counter. -/
theorem queueEffect_agesFall {k k' : Block} {sends : Prop} (h : QueueEffect k k' sends) (hf : AgesFall k)
    (hlt : ∀ e ∈ k.rtx, age k.now k.ses.t e < 2 ^ 32 - 1) : AgesFall k' := by
  rw [agesFall_iff] at hf ⊢
  cases h with
  | retired n hq hnow ht =>
    rw [hq, hnow, ht]
    exact hf.drop
  | aged hq hnow ht =>
    rw [hq, hnow, ht]
    refine hf.imp_of_mem fun {e e'} he he' hle => ?_
    rw [age_tick (hlt e he), age_tick (hlt e' he')]
    omega
  | sent e hs he hq hnow ht =>
    rw [hq, hnow, ht]
    refine List.pairwise_append.mpr ⟨hf, List.pairwise_singleton _ _, fun a _ x hx => ?_⟩
    rw [List.mem_singleton.mp hx, age_of_armed he]
    exact Nat.zero_le _
  | armed ha =>
    refine List.pairwise_of_forall_mem_list fun e he e' he' => ?_
    rw [age_of_armed (ha e he), age_of_armed (ha e' he')]

/-- The deadlines stay in order after every effect on the queue, if every age is below 2^31 where an entry is added. -/
theorem queueEffect_deadlineOrder {k k' : Block} {sends : Prop} (h : QueueEffect k k' sends) (hd : DeadlineOrder k)
    (hlt : sends → ∀ e ∈ k.rtx, age k.now k.ses.t e < 2 ^ 31) : DeadlineOrder k' := by
  rw [deadlineOrder_iff] at hd ⊢
  cases h with
  | retired n hq hnow ht => rw [hq]; exact hd.drop
  | aged hq hnow ht => rw [hq]; exact hd
  | sent e hs he hq hnow ht =>
    rw [hq]
    refine List.pairwise_append.mpr ⟨hd, List.pairwise_singleton _ _, fun a ha x hx => ?_⟩
    have hage : age k.now k.ses.t e = 0 := age_of_armed he
    have := hlt hs a ha
    rw [List.mem_singleton.mp hx, deadline_sub (now := k.now) (t := k.ses.t) (by omega)]
    omega
  | armed ha =>
    refine List.pairwise_of_forall_mem_list fun e he e' he' => ?_
    rw [ha e he, ha e' he', BitVec.sub_self]
    decide

/-! ## The service bound (70_reset_and_hazards R297) -/

/-- Only a sender with a legal timeout holds outstanding segments. -/
theorem outstanding_sender {hw : Config.Params} {k : Block} {e : Entry} (hk : BlockInv hw k) (he : e ∈ k.rtx) :
    (k.st = .ready ∨ k.st = .awaitingAck) ∧ k.ses.role = .sender ∧ k.ses.t.toNat ≤ 2 ^ 31 - 1 := by
  have hst : k.st = .ready ∨ k.st = .awaitingAck := by
    by_contra hc
    obtain ⟨hr, ha⟩ := not_or.mp hc
    rw [hk.quiet hr ha] at he
    cases he
  have hrole : k.ses.role = .sender := hk.role.sender (hst.imp_right .inl)
  have hidle : k.st ≠ .idle := by rcases hst with h | h <;> simp [h]
  exact ⟨hst, hrole, ((hk.ses hidle).timeout hrole).2⟩

/-- Where no TIMEOUT is enabled every entry is younger than `T`. -/
theorem age_lt_of_not_enabled {s : State} (hk : BlockInv s.hw s.blk) (hf : AgesFall s.blk)
    (hserved : ServedInTime s.blk) (hoff : timeoutEnabled s = false) :
    ∀ e ∈ s.blk.rtx, age s.blk.now s.blk.ses.t e < 2 ^ 31 := by
  intro e he
  obtain ⟨hst, hrole, ht⟩ := outstanding_sender hk he
  have hnot : tmExpired s = false := by
    rcases hst with h | h <;> simpa [timeoutEnabled, hrole, h] using hoff
  by_contra hold
  have hexp : expired s.blk.now e.deadline = true := (expired_iff_age ht (hserved e he)).mpr (by omega)
  rw [tmExpired_of_expired hf ht hserved he hexp] at hnot
  cases hnot

/-- The order is kept by a step within the service bound that serves in the order of R181. -/
theorem step_keeps_order {s t : State} (hinv : Inv s) (hf : AgesFall s.blk) (hd : DeadlineOrder s.blk)
    (hserved : ServedInTime s.blk) (hkeep : KeepsPriority s) (h : step s = .next t) :
    AgesFall t.blk ∧ DeadlineOrder t.blk := by
  rcases step_ports hinv.ports h with hs | ⟨u, i, ⟨hhw, hblk, -⟩, hx, htm, hoff⟩
  · obtain ⟨-, -, hb | hb | ⟨c, hb⟩⟩ := fetch_still hs <;> rw [hb]
    · exact ⟨hf, hd⟩
    · exact ⟨.nil, .nil⟩
    · exact ⟨hf, hd⟩
  · have hq : QueueEffect s.blk t.blk (HandlesSend i) := by
      rw [← hblk]
      exact exec_queue (fun x hi => htm (by rw [hi]; rfl)) (hhw ▸ hblk ▸ hinv.block) hx
    refine ⟨queueEffect_agesFall hq hf fun e he => ?_, queueEffect_deadlineOrder hq hd fun hsend => ?_⟩
    · obtain ⟨-, -, ht⟩ := outstanding_sender hinv.block he
      have := hserved e he
      omega
    · exact age_lt_of_not_enabled hinv.block hf hserved (hoff hkeep hsend)

/-- Settles O58, by the four effects an operation can have on the queue. -/
theorem deadlinesInOrder : Obligations.DeadlinesInOrder := by
  unfold Obligations.DeadlinesInOrder
  refine ⟨?reset, ?step, ?operation, ?formula, ?oldest⟩
  case reset => exact fun p => ⟨.nil, .nil⟩
  case step => exact fun s t => step_keeps_order
  case operation => exact fun s t i hi hk hf hlt h => queueEffect_agesFall (exec_queue hi hk h) hf hlt
  case formula => exact fun k => deadlineOrder_of_agesFall
  case oldest =>
    rintro s hf - ht hserved ⟨e, he, hexp⟩
    exact tmExpired_of_expired hf ht hserved he hexp

end Sys2Proof.Proofs
end

section
/-! # Frames on the wire (O55, O52, O54)

What ENCODE makes of a legal segment decodes to that segment (`decodeSeg_frameBytes`). With the inversion of `exec` this
says what an operation puts on `ch_out` and what it leaves of the queue (`OutputEffect`). -/

namespace Sys2Proof.Proofs

open Sys2Proof Sys2Proof.Machine Sys2Proof.Safety

/-! ## The integrity value of a frame (40_integrity_codec R129) -/

/-- A word and its complement make all ones, with no carry to fold. -/
theorem addOc_complement (x : Half) : addOc x (0xFFFF#16 - x) = 0xFFFF#16 := by
  have hsum : x.zeroExtend 17 + (0xFFFF#16 - x).zeroExtend 17 = 0x0FFFF#17 := by
    apply BitVec.eq_of_toNat_eq
    simp only [BitVec.toNat_add, BitVec.toNat_setWidth, BitVec.toNat_sub, BitVec.toNat_ofNat]
    omega
  simp only [addOc, hsum]
  decide

/-- A byte string verifies against its own integrity value. -/
theorem icVer_icGen (alg : Alg) (bytes : List Byte) : icVer alg bytes (icGen alg bytes) = true := by
  cases alg with
  | csum16 => exact decide_eq_true (addOc_complement _)
  | crc16 => exact decide_eq_true rfl

/-! ## DECODE of an encoded segment (41_segment_framer R141, R143) -/

theorem frameBody_length (seq : Half) (flag : Byte) (p : List Byte) : (frameBody seq flag p).length = 5 + p.length := by
  simp [frameBody]
  omega

theorem frameBytes_length (alg : Alg) (seq : Half) (flag : Byte) (p : List Byte) :
    (frameBytes alg seq flag p).length = 7 + p.length := by
  simp only [frameBytes, List.length_append, frameBody_length, be16Bytes_length]
  omega

/-- The trailer is read from the end of the buffer. -/
theorem trailer_append (body : List Byte) (v : Half) : trailer (body ++ be16Bytes v) = v := by
  simp [trailer, be16Bytes]

/-- A buffer is judged by its body and its trailer. -/
theorem decodeSeg_append {c : Ses} {body : List Byte} {v : Half} (hlen : 5 ≤ body.length)
    (hver : icVer c.alg body v = true) :
    decodeSeg c (body ++ be16Bytes v) = decodeFields c (body.length + 2) body := by
  have htake : (body ++ be16Bytes v).take ((body ++ be16Bytes v).length - 2) = body := by simp
  have hshort : ¬ (body ++ be16Bytes v).length < 7 := by simp; omega
  rw [decodeSeg, if_neg hshort, htake, trailer_append, if_pos hver]
  simp

theorem encodePre_iff {c : Ses} {seq : Half} {flag : Byte} {p : List Byte} :
    encodePre c seq flag p = true ↔ seq.toNat < c.m.toNat ∧ flag.toNat ≤ 2 ∧ p.length ≤ c.mss.toNat ∧
      (flag = flagData ∨ p = []) := by
  simp [encodePre, and_assoc]

/-- A segment that meets ENCODE's preconditions passes every field check of DECODE. -/
theorem decodeFields_frameBody {c : Ses} {seq : Half} {flag : Byte} {p : List Byte}
    (h : encodePre c seq flag p = true) :
    decodeFields c (p.length + 7) (frameBody seq flag p) = .segment seq flag p := by
  obtain ⟨hseq, hflag, hmss, hdata⟩ := encodePre_iff.mp h
  have hlen : (BitVec.ofNat 16 p.length).toNat = p.length := by
    rw [BitVec.toNat_ofNat]
    exact Nat.mod_eq_of_lt (by have := c.mss.isLt; omega)
  have hempty : ¬(flag ≠ flagData ∧ p.length ≠ 0) := by
    rintro ⟨hne, hp⟩
    rcases hdata with hd | rfl
    · exact hne hd
    · exact hp rfl
  simp only [frameBody, be16Bytes, List.cons_append, List.nil_append, decodeFields, be16_hi_lo, hlen,
    Nat.add_sub_cancel, ne_eq, not_true_eq_false, if_false]
  rw [if_neg (by omega), if_neg (by omega), if_neg (by omega), if_neg hempty]

/-- DECODE of the frame of a legal segment is that segment. -/
theorem decodeSeg_frameBytes {c : Ses} {seq : Half} {flag : Byte} {p : List Byte}
    (h : encodePre c seq flag p = true) : decodeSeg c (frameBytes c.alg seq flag p) = .segment seq flag p := by
  have hbody := frameBody_length seq flag p
  rw [frameBytes, decodeSeg_append (by omega) (icVer_icGen _ _), hbody,
    show 5 + p.length + 2 = p.length + 7 by omega]
  exact decodeFields_frameBody h

theorem encodeSeg_of_pre {c : Ses} {seq : Half} {flag : Byte} {p : List Byte} (h : encodePre c seq flag p = true) :
    encodeSeg c seq flag p = frameBytes c.alg seq flag p := by
  simp [encodeSeg, h]

/-- An acknowledgment of a number of the session decodes to itself (41_segment_framer R147). -/
theorem encodePre_ack {c : Ses} {a : Half} (h : a.toNat < c.m.toNat) : encodePre c a flagAck [] = true := by
  simp [encodePre, h, flagAck]

theorem decodeSeg_mkAck {c : Ses} {a : Half} (h : a.toNat < c.m.toNat) :
    decodeSeg c (mkAck c a) = .segment a flagAck [] := by
  rw [mkAck, encodeSeg_of_pre (encodePre_ack h)]
  exact decodeSeg_frameBytes (encodePre_ack h)

/-! ## What an operation puts out -/

/-- The operation sends a segment: a PUSH or a CLOSE, as a command or as its row. -/
def SendsSegment (i : Instr) : Prop :=
  i = .cmdTxClose ∨ i = .swsClose ∨ i = .gbsClose ∨ ∃ p, i = .cmdTxPush p ∨ i = .swsPush p ∨ i = .gbsPush p

/-- The inversion of `exec`, where the row that sends a segment is that of an operation that sends one. -/
theorem exec_effect_sends {i : Instr} {s t : State} (h : exec i s = .next t) :
    ∃ j, RowEffect s j t ∧ (SendsSegment j → SendsSegment i) := by
  by_cases hp : (encode i).1 = .frame ∨ (encode i).1 = .cmd
  · by_cases hr : ∃ code, i = .cmdReserved code
    · obtain ⟨code, rfl⟩ := hr
      cases h
      exact ⟨.cmdReserved code, .refused _, id⟩
    · obtain ⟨j, hj, he, hx⟩ := port_row hp (not_exists.mp hr) h
      have hd : (encode j).1 = .dw := by simpa [isRow] using hj
      refine ⟨j, rowEffect_of_exec (by simp [hd]) (by simp [hd]) hx, fun hs => ?_⟩
      have hev : HandlesSend i := by
        rw [HandlesSend, ← he]
        rcases hs with rfl | rfl | rfl | ⟨p, rfl | rfl | rfl⟩ <;> simp [eventOf, encode]
      cases i with
      | cmdTxClose => exact .inl rfl
      | cmdTxPush p => exact .inr (.inr (.inr ⟨p, .inl rfl⟩))
      | cmdReserved code => exact absurd ⟨code, rfl⟩ hr
      | frameData | frameAck | frameFin | frameIllegal | cmdOpen | cmdAbort =>
        simp [HandlesSend, eventOf, encode] at hev
      | _ => simp [encode] at hp
  · obtain ⟨hf, hk⟩ := not_or.mp hp
    exact ⟨i, rowEffect_of_exec hf hk h, id⟩

/-- What an operation can do at `ch_out` and to the segments of the queue; only one that sends (`sends`) adds one. -/
inductive OutputEffect (s t : State) (sends : Prop) : Prop
  | silent (n : Nat) (hout : t.env.out = s.env.out) (hq : outstanding t.blk.rtx = (outstanding s.blk.rtx).drop n)
  | resent (fs : List Datagram) (hfs : ∀ f ∈ fs, ∃ e ∈ s.blk.rtx, e.frame = f)
      (hout : t.env.out = s.env.out ++ fs.map .emit) (hq : outstanding t.blk.rtx = outstanding s.blk.rtx)
  | sent (x : Entry) (hs : sends) (hrole : s.blk.ses.role = .sender)
      (hx : BlockInv s.hw s.blk → EntryOk s.blk.ses x)
      (hout : t.env.out = s.env.out ++ [.emit x.frame]) (hq : t.blk.rtx = s.blk.rtx ++ [x])
  | answered (a : Half) (before : List Effect) (hb : ∀ f, Effect.emit f ∉ before)
      (hrole : s.blk.ses.role = .receiver) (ha : BlockInv s.hw s.blk → a.toNat < s.blk.ses.m.toNat)
      (hout : t.env.out = s.env.out ++ (before ++ [.emit (mkAck s.blk.ses a)]))
      (hq : outstanding t.blk.rtx = outstanding s.blk.rtx)

/-- The number a receiver has acknowledged last is one of the session. -/
theorem lastAcked_lt {s : State} (hk : BlockInv s.hw s.blk) (hr : s.blk.ses.role = .receiver)
    (hst : s.blk.st = .listen ∨ s.blk.st = .closed) : (lastAcked s).toNat < s.blk.ses.m.toNat := by
  have hidle : s.blk.st ≠ .idle := by rcases hst with h | h <;> simp [h]
  have hses : SesLegal s.hw s.blk.ses := hk.ses hidle
  have hexp := (hk.rcv hr).expected hidle
  cases hm : s.blk.ses.mode with
  | sw =>
    rw [lastAcked_sw hm]
    rw [(hses.sw hm).2] at hexp ⊢
    simp only [otherSeq]
    bv_omega
  | gbn =>
    have h0 := modulus_pos hses
    have := modulus_le hses
    have := Int.emod_nonneg ((s.blk.expected.toNat : Int) - 1) (b := s.blk.ses.m.toNat) (by omega)
    have := Int.emod_lt_of_pos ((s.blk.expected.toNat : Int) - 1) (b := s.blk.ses.m.toNat) (by omega)
    rw [lastAcked_gbn hm, expectedPred, seqPred, BitVec.toNat_ofNat, Nat.mod_eq_of_lt (by omega)]
    omega

/-- A segment that a receiver accepts bears the number it expects. -/
theorem seqNum_eq_of_hasSeq {d : Decoded} {f : Byte} {v : Half} (hf : d.hasFlag f = true) (hs : d.hasSeq v = true) :
    d.seqNum = v := by
  obtain ⟨seq, p, rfl⟩ := (hasFlag_iff d f).mp hf
  exact of_decide_eq_true hs

/-- Re-arming one entry changes no segment. -/
theorem outstanding_armAt (s : State) (j : Nat) : outstanding (armAt s j) = outstanding s.blk.rtx := by
  refine List.ext_getElem? fun i => ?_
  simp only [outstanding, armAt, List.getElem?_map, List.getElem?_modify]
  cases s.blk.rtx[i]? with
  | none => rfl
  | some e => by_cases h : j = i <;> simp [h, armEntry]

/-- The alternating bit of a stop-and-wait sender that may send is a number of the session. -/
theorem sws_number_lt {s : State} {kind : TxKind} {p : List Byte} (hk : BlockInv s.hw s.blk)
    (hrun : runsAs .sender .sw s = true) (hadm : txAdmit kind p s = .ok) :
    (seqOfBit s.blk.b).toNat < s.blk.ses.m.toNat := by
  obtain ⟨-, hmode⟩ := (runsAs_iff _ _ _).mp hrun
  rw [((hk.ses (by simp [admitted_ready hk hadm])).sw hmode).2]
  exact seqOfBit_lt _

/-- The `next` of a Go-Back-N sender that may send is a number of the session. -/
theorem gbs_number_lt {s : State} {kind : TxKind} {p : List Byte} (hk : BlockInv s.hw s.blk)
    (hrun : runsAs .sender .gbn s = true) (hadm : txAdmit kind p s = .ok) :
    s.blk.nxt.toNat < s.blk.ses.m.toNat := by
  obtain ⟨hrole, hmode⟩ := (runsAs_iff _ _ _).mp hrun
  exact ((hk.gbs hrole hmode).ranges (admitted_ready hk hadm)).2

/-- Every row and every unit operation has one of the four effects at `ch_out`. -/
theorem rowEffect_output {i : Instr} {s t : State} (h : RowEffect s i t) : OutputEffect s t (SendsSegment i) := by
  have push {p : List Byte} (hadm : txAdmit .push p s = .ok) : p.length ≤ s.blk.ses.mss.toNat := by
    obtain ⟨-, -, -, hlen, -⟩ := (txAdmit_ok_iff _ _ _).mp hadm
    exact hlen rfl
  cases h with
  | unchanged | result _ | refused _ | raised _ | ticked _ => exact .silent 0 rfl rfl
  | armed j => exact .silent 0 rfl (outstanding_armAt s j.toNat)
  | cancelled n d hi => exact .silent n rfl (List.map_drop ..)
  | opened hi hc => exact .silent (outstanding s.blk.rtx).length rfl (List.drop_length).symm
  | tornDown r m cause hc => exact .silent (outstanding s.blk.rtx).length rfl (List.drop_length).symm
  | swsPushed p hc =>
    simp only [condSwsPush, Bool.and_eq_true, decide_eq_true_eq] at hc
    exact .sent _ (.inr (.inr (.inr ⟨p, .inr (.inl rfl)⟩))) ((runsAs_iff _ _ _).mp hc.1).1
      (fun hk => entryOk_encodeSeg _ (.inl rfl) (encodePre_data (sws_number_lt hk hc.1 hc.2) (push hc.2))) rfl rfl
  | swsClosed hc =>
    simp only [condSwsClose, Bool.and_eq_true, decide_eq_true_eq] at hc
    exact .sent _ (.inr (.inl rfl)) ((runsAs_iff _ _ _).mp hc.1).1
      (fun hk => entryOk_encodeSeg _ (.inr rfl) (encodePre_fin (sws_number_lt hk hc.1 hc.2))) rfl rfl
  | gbsPushed p hc =>
    simp only [condGbsPush, Bool.and_eq_true, decide_eq_true_eq] at hc
    exact .sent _ (.inr (.inr (.inr ⟨p, .inr (.inr rfl)⟩))) ((runsAs_iff _ _ _).mp hc.1).1
      (fun hk => entryOk_encodeSeg _ (.inl rfl) (encodePre_data (gbs_number_lt hk hc.1 hc.2) (push hc.2))) rfl rfl
  | gbsClosed hc =>
    simp only [condGbsClose, Bool.and_eq_true, decide_eq_true_eq] at hc
    exact .sent _ (.inr (.inr (.inl rfl))) ((runsAs_iff _ _ _).mp hc.1).1
      (fun hk => entryOk_encodeSeg _ (.inr rfl) (encodePre_fin (gbs_number_lt hk hc.1 hc.2))) rfl rfl
  | swsAcked buf hc => exact .silent 1 rfl (List.map_drop ..)
  | gbsAcked buf hc =>
    obtain ⟨c, hdone⟩ := finishIfDrained_eq_setSt (retire (dec s buf).seqNum s)
    rw [hdone]
    exact .silent _ rfl (List.map_drop ..)
  | swsResent c e rest hm hst hq =>
    exact .resent [e.frame] (by simp [hq]) rfl (by rw [hq]; rfl)
  | gbsResent c hm hst =>
    exact .resent (s.blk.rtx.map Entry.frame) (by simp) rfl (outstanding_map_armEntry _ _)
  | acceptedData buf hi hr hst hf hseq =>
    rw [acceptData_eq, seqNum_eq_of_hasSeq hf hseq]
    exact .answered _ [.deliver (dec s buf).payload] (by simp) hr (fun hk => (hk.rcv hr).expected (by simp [hst])) rfl
      rfl
  | acceptedFin buf hi hr hst hf hseq =>
    rw [acceptFin_eq, seqNum_eq_of_hasSeq hf hseq]
    exact .answered _ [.signalEos] (by simp) hr (fun hk => (hk.rcv hr).expected (by simp [hst])) rfl rfl
  | reAcked c hr hst => exact .answered _ [] (by simp) hr (fun hk => lastAcked_lt hk hr hst) rfl rfl

/-! ## Emitted datagrams -/

/-- A datagram that a session's endpoint may emit: it decodes to a segment, is as long as its payload asks, and its flag
is one of the role's (30_encoding R96 to R98). -/
def SessionFrame (c : Ses) (f : Datagram) : Prop :=
  ∃ seq flag p, decodeSeg c f = .segment seq flag p ∧ f.length = 7 + p.length ∧ p.length ≤ c.mss.toNat ∧
    (c.role = .sender → flag = flagData ∨ flag = flagFin) ∧ (c.role = .receiver → flag = flagAck)

theorem entryOk_sessionFrame {c : Ses} {e : Entry} (hr : c.role = .sender) (h : EntryOk c e) :
    SessionFrame c e.frame := by
  obtain ⟨flag, p, hflag, hpre, hframe⟩ := h
  obtain ⟨-, -, hmss, -⟩ := encodePre_iff.mp hpre
  rw [hframe]
  exact ⟨e.seq, flag, p, decodeSeg_frameBytes hpre, frameBytes_length .., hmss, fun _ => hflag, by simp [hr]⟩

theorem mkAck_sessionFrame {c : Ses} {a : Half} (hr : c.role = .receiver) (h : a.toNat < c.m.toNat) :
    SessionFrame c (mkAck c a) :=
  ⟨a, flagAck, [], decodeSeg_mkAck h, by rw [mkAck, encodeSeg_of_pre (encodePre_ack h), frameBytes_length],
    Nat.zero_le _, by simp [hr], fun _ => rfl⟩

/-- Settles O55, by the four effects an operation can have at `ch_out`. -/
theorem emissionsAreFrames : Obligations.EmissionsAreFrames := by
  unfold Obligations.EmissionsAreFrames
  intro s t i hk h
  obtain ⟨j, heff, -⟩ := exec_effect_sends h
  cases rowEffect_output heff with
  | silent n hout hq => exact ⟨[], by simp [hout], by simp⟩
  | resent fs hfs hout hq =>
    refine ⟨_, hout, fun f hf => ?_⟩
    obtain ⟨e, he, rfl⟩ := hfs f (by simpa using hf)
    obtain ⟨-, hrole, -⟩ := outstanding_sender hk he
    exact entryOk_sessionFrame hrole (hk.entries e he)
  | sent x hs hrole hx hout hq =>
    refine ⟨_, hout, fun f hf => ?_⟩
    obtain rfl : f = x.frame := by simpa using hf
    exact entryOk_sessionFrame hrole (hx hk)
  | answered a before hb hrole ha hout hq =>
    refine ⟨_, hout, fun f hf => ?_⟩
    obtain rfl : f = mkAck s.blk.ses a := by simpa [hb] using hf
    exact mkAck_sessionFrame hrole (ha hk)

/-- Settles O54: what an operation emits it has in the queue or adds to its tail, or it is an answer. -/
theorem storedFramesStand : Obligations.StoredFramesStand := by
  unfold Obligations.StoredFramesStand
  intro s t i h
  obtain ⟨j, heff, hsends⟩ := exec_effect_sends h
  cases rowEffect_output heff with
  | silent n hout hq => exact ⟨[], by simp [hout], .inl ⟨n, hq⟩⟩
  | resent fs hfs hout hq => exact ⟨_, hout, .inl ⟨0, hq⟩⟩
  | sent x hs hrole hx hout hq => exact ⟨_, hout, .inr ⟨hsends hs, x, hq, rfl⟩⟩
  | answered a before hb hrole ha hout hq => exact ⟨_, hout, .inl ⟨0, hq⟩⟩

/-! ## What is outstanding -/

/-- A stop-and-wait sender has one segment outstanding at most (20_memory R83). -/
theorem sws_rtx_length_le {hw : Config.Params} {k : Block} (hk : BlockInv hw k) (hr : k.ses.role = .sender)
    (hm : k.ses.mode = .sw) : k.rtx.length ≤ 1 := by
  by_cases hready : k.st = .ready
  · simp [((hk.sws hr hm).ready hready).1]
  · by_cases hawait : k.st = .awaitingAck
    · obtain ⟨e, hq, -⟩ := (hk.sws hr hm).awaiting hawait
      simp [hq]
    · simp [hk.quiet hready hawait]

/-- A sender has a window outstanding at most (20_memory R82); that of stop-and-wait is 1. -/
theorem rtx_length_le_window {hw : Config.Params} {k : Block} (hk : BlockInv hw k) (hr : k.ses.role = .sender) :
    k.rtx.length ≤ k.ses.w.toNat := by
  by_cases hnil : k.rtx = []
  · simp [hnil]
  obtain ⟨e, he⟩ := List.exists_mem_of_ne_nil _ hnil
  obtain ⟨hst, -, -⟩ := outstanding_sender hk he
  have hidle : k.st ≠ .idle := by rcases hst with h | h <;> simp [h]
  cases hm : k.ses.mode with
  | sw =>
    rw [((hk.ses hidle).sw hm).1]
    exact sws_rtx_length_le hk hr hm
  | gbn =>
    refine (hk.gbs hr hm).window (hst.resolve_right fun hawait => ?_)
    rw [hk.role.awaiting hawait] at hm
    cases hm

/-- TIMEOUT is enabled only where a segment is outstanding (42_timeout_manager R166, R171). -/
theorem rtx_ne_nil_of_timeoutEnabled {s : State} (h : timeoutEnabled s = true) : s.blk.rtx ≠ [] := by
  intro hq
  simp [timeoutEnabled, tmExpired, hq] at h

theorem timeout_off_of_rtx_nil {s : State} (h : s.blk.rtx = []) : s.blk.rtx = [] ∧ timeoutEnabled s = false :=
  ⟨h, Bool.eq_false_iff.mpr fun hon => rtx_ne_nil_of_timeoutEnabled hon h⟩

/-- A receiver holds nothing outstanding. -/
theorem receiver_rtx {hw : Config.Params} {k : Block} (hk : BlockInv hw k) (hr : k.ses.role = .receiver) :
    k.rtx = [] := by
  refine List.eq_nil_iff_forall_not_mem.mpr fun e he => ?_
  obtain ⟨-, hsender, -⟩ := outstanding_sender hk he
  rw [hr] at hsender
  cases hsender

/-- Settles O52, from the queue's part of the block invariant. -/
theorem outstandingBounds : Obligations.OutstandingBounds := by
  unfold Obligations.OutstandingBounds
  exact fun s hk => ⟨fun hr _ => rtx_length_le_window hk hr, sws_rtx_length_le hk,
    fun hready hawait => timeout_off_of_rtx_nil (hk.quiet hready hawait),
    fun hr => timeout_off_of_rtx_nil (receiver_rtx hk hr),
    fun hon => List.length_pos_iff.mpr (rtx_ne_nil_of_timeoutEnabled hon)⟩

end Sys2Proof.Proofs
end

section
/-! # Configuration coherence (O43)

The configuration registers are a frame of every operation but an OPEN that is examined: the operation runs alike over
other registers and keeps them (`exec_withCfg`). -/

namespace Sys2Proof.Proofs

open Sys2Proof Sys2Proof.Machine Sys2Proof.Safety

/-! ## An operation over other registers -/

/-- The state with other configuration registers. -/
def withCfg (c : CfgRegs) (s : State) : State := { s with blk := { s.blk with cfg := c } }

@[simp] theorem withCfg_ses (c : CfgRegs) (s : State) : (withCfg c s).blk.ses = s.blk.ses := rfl
@[simp] theorem withCfg_st (c : CfgRegs) (s : State) : (withCfg c s).blk.st = s.blk.st := rfl
@[simp] theorem withCfg_rtx (c : CfgRegs) (s : State) : (withCfg c s).blk.rtx = s.blk.rtx := rfl

/-- A guarded rule runs alike where its condition and its effect do. -/
theorem guarded_view {f : State → State} {b b' : Bool} {t t' : State} (hb : b' = b) (ht : t' = f t) :
    guarded b' t' = viewOut f (guarded b t) := by
  subst hb ht
  cases b' <;> rfl

/-- A choice runs alike where both branches do. -/
theorem ite_view {f : State → State} {p : Prop} [Decidable p] {o o' u u' : Out} (h : o' = viewOut f o)
    (k : u' = viewOut f u) : (if p then o' else u') = viewOut f (if p then o else u) := by
  split <;> assumption

theorem execSwsAckBad_withCfg (c : CfgRegs) (k : BitVec 3) (buf : List Byte) (s : State) :
    execSwsAckBad k buf (withCfg c s) = viewOut (withCfg c) (execSwsAckBad k buf s) := by
  refine ite_view ?_ rfl
  rw [withCfg_rtx]
  cases s.blk.rtx <;> rfl

theorem execSwsTimeout_withCfg (c : CfgRegs) (s : State) :
    execSwsTimeout (withCfg c s) = viewOut (withCfg c) (execSwsTimeout s) := by
  refine ite_view ?_ rfl
  rw [withCfg_rtx]
  cases s.blk.rtx <;> rfl

theorem finishIfDrained_withCfg (c : CfgRegs) (s : State) :
    finishIfDrained (withCfg c s) = withCfg c (finishIfDrained s) := by
  unfold finishIfDrained
  rw [apply_ite (withCfg c)]
  rfl

theorem execGbsAck_withCfg (c : CfgRegs) (buf : List Byte) (s : State) :
    execGbsAck buf (withCfg c s) = viewOut (withCfg c) (execGbsAck buf s) :=
  guarded_view rfl (finishIfDrained_withCfg c (retire (dec s buf).seqNum s))

/-- `RX_FRAME` runs the same row over other registers. -/
theorem rxFrame_withCfg (c : CfgRegs) (buf : List Byte) (s : State) :
    rxFrame buf (withCfg c s) = viewOut (withCfg c) (rxFrame buf s) := by
  refine ite_view (guarded_view rfl rfl) ?_
  rw [withCfg_ses]
  cases s.blk.ses.role <;> cases s.blk.ses.mode
  case sender.sw =>
    simp only [rxSws, withCfg_st]
    cases s.blk.st with
    | ready => exact guarded_view rfl rfl
    | awaitingAck => exact ite_view (guarded_view rfl rfl) (execSwsAckBad_withCfg c _ buf s)
    | _ => rfl
  case sender.gbn =>
    simp only [rxGbs, withCfg_st]
    cases s.blk.st with
    | ready => exact ite_view (ite_view (execGbsAck_withCfg c buf s) (guarded_view rfl rfl)) (guarded_view rfl rfl)
    | _ => rfl
  case receiver.sw =>
    simp only [rxSwr, withCfg_st]
    cases s.blk.st with
    | listen =>
      exact ite_view (guarded_view rfl rfl) (ite_view (guarded_view rfl rfl)
        (ite_view (ite_view (guarded_view rfl rfl) (guarded_view rfl rfl))
          (ite_view (guarded_view rfl rfl) (guarded_view rfl rfl))))
    | closed =>
      exact ite_view (guarded_view rfl rfl) (ite_view (guarded_view rfl rfl)
        (ite_view (guarded_view rfl rfl) (guarded_view rfl rfl)))
    | _ => rfl
  case receiver.gbn =>
    simp only [rxGbr, withCfg_st]
    cases s.blk.st with
    | listen =>
      exact ite_view (guarded_view rfl rfl) (ite_view (guarded_view rfl rfl)
        (ite_view (ite_view (guarded_view rfl rfl) (guarded_view rfl rfl))
          (ite_view (guarded_view rfl rfl) (guarded_view rfl rfl))))
    | closed =>
      exact ite_view (guarded_view rfl rfl) (ite_view (guarded_view rfl rfl)
        (ite_view (guarded_view rfl rfl) (guarded_view rfl rfl)))
    | _ => rfl

/-- The registers do not take part in an operation, unless it is an OPEN outside an active session. -/
theorem exec_withCfg {i : Instr} {s : State} (c : CfgRegs) (h : isOpen i = false ∨ s.blk.st.isActive = true) :
    exec i (withCfg c s) = viewOut (withCfg c) (exec i s) := by
  cases i with
  | frameData | frameAck | frameFin | frameIllegal => exact rxFrame_withCfg c _ s
  | csum16 | csum16v | crc16 | crc16v | encode | decode | tmTick | tmCancelAll | tmExpired | evTick | cmdReserved => rfl
  | tmArm x =>
    cases x with
    | fresh => rfl
    | queued j => exact ite_view rfl rfl
  | tmCancel k => exact ite_view rfl rfl
  | evOpenBadstate | evAbort | evAbortBadstate | txRefuse | rxInactive | swsPush | swsClose | swsAckOk | swsRxReady
  | swrDataOk | swrDataDup | swrFinOk | swrFinDup | swrClosedReack | swrCorrupt | swrAckIgn | gbsPush | gbsClose
  | gbsAckStale | gbsDiscard | gbsTimeout | gbrDataOk | gbrDataOoo | gbrFinOk | gbrFinOoo | gbrClosedReack
  | gbrCorrupt | gbrAckIgn => exact guarded_view rfl rfl
  | gbsAck buf => exact execGbsAck_withCfg c buf s
  | swsAckBad k buf => exact execSwsAckBad_withCfg c k buf s
  | swsTimeout => exact execSwsTimeout_withCfg c s
  | evOpen r m =>
    have ha : s.blk.st.isActive = true := h.resolve_left (by simp [isOpen, Sys2Proof.encode])
    simp [exec, execEvOpen, condOpen, ha, viewOut]
  | evOpenBadcfg r m =>
    have ha : s.blk.st.isActive = true := h.resolve_left (by simp [isOpen, Sys2Proof.encode])
    simp [exec, execEvOpenBadcfg, condOpenBadcfg, ha, viewOut]
  | cmdOpen =>
    have ha : s.blk.st.isActive = true := h.resolve_left (by simp [isOpen, Sys2Proof.encode])
    simp only [exec, execCmdOpen, withCfg_st, ha, if_true]
    exact guarded_view rfl rfl
  | cmdTxPush p =>
    refine ite_view (guarded_view rfl rfl) ?_
    rw [withCfg_ses]
    cases s.blk.ses.mode <;> exact guarded_view rfl rfl
  | cmdTxClose =>
    refine ite_view (guarded_view rfl rfl) ?_
    rw [withCfg_ses]
    cases s.blk.ses.mode <;> exact guarded_view rfl rfl
  | cmdAbort cause => exact ite_view (guarded_view rfl rfl) (guarded_view rfl rfl)

/-- States that agree but for the registers differ by a write of them. -/
theorem eq_withCfg_of_eraseCfg {s₁ s₂ : State} (h : eraseCfg s₁ = eraseCfg s₂) : s₂ = withCfg s₂.blk.cfg s₁ :=
  (congrArg (withCfg s₂.blk.cfg) h).symm

theorem viewOut_eraseCfg_withCfg (c : CfgRegs) (o : Out) :
    viewOut eraseCfg (viewOut (withCfg c) o) = viewOut eraseCfg o := by
  cases o <;> rfl

/-! ## Writers of the registers and of the session -/

/-- No row and no unit operation writes the registers. -/
theorem rowEffect_cfg {i : Instr} {s t : State} (h : RowEffect s i t) : t.blk.cfg = s.blk.cfg := by
  cases h with
  | gbsAcked buf hc =>
    obtain ⟨c, hdone⟩ := finishIfDrained_eq_setSt (retire (dec s buf).seqNum s)
    rw [hdone]
    rfl
  | _ => rfl

/-- Only the row OPEN writes the session. -/
theorem rowEffect_ses {i : Instr} {s t : State} (h : RowEffect s i t) :
    t.blk.ses = s.blk.ses ∨ isOpen i = true ∧ condOpen s = true := by
  cases h with
  | opened hi hc => exact .inr ⟨hi, hc⟩
  | gbsAcked buf hc =>
    obtain ⟨c, hdone⟩ := finishIfDrained_eq_setSt (retire (dec s buf).seqNum s)
    rw [hdone]
    exact .inl rfl
  | _ => exact .inl rfl

/-- The operations that handle the event OPEN are the command and its rows. -/
theorem isOpen_iff_event (i : Instr) : isOpen i = true ↔ eventOf i = 1#3 := by
  unfold isOpen eventOf
  rcases encode i with ⟨f, _ | ⟨w, ops⟩⟩ <;> cases f <;> simp
  case cons.cmd => revert w; decide

theorem condOpen_iff (s : State) : condOpen s = true ↔ s.blk.st.isActive = false ∧ cfgLegal s.hw s.blk.cfg = true := by
  simp [condOpen]

/-- A configuration OPEN accepts is legal (43_session_control R184). -/
theorem cfgLegal_of_check {hw : Config.Params} {c : CfgRegs} (h : cfgLegal hw c = true) : CfgLegal hw c := by
  have hl := latch_legal h
  exact ⟨hl.mss, hl.timeout, fun hm => by simpa [latch, hm] using hl.gbn hm⟩

/-- Settles O43, by the operations over other registers and by what a row writes. -/
theorem configurationCoherence : Obligations.ConfigurationCoherence := by
  unfold Obligations.ConfigurationCoherence
  refine ⟨?alike, ?kept, ?session⟩
  case alike =>
    intro s₁ s₂ i he h
    rw [eq_withCfg_of_eraseCfg he, exec_withCfg _ h, viewOut_eraseCfg_withCfg]
  case kept =>
    intro s t i h
    obtain ⟨j, heff, -⟩ := exec_effect h
    exact rowEffect_cfg heff
  case session =>
    intro s t i h hne
    obtain ⟨j, heff, hj⟩ := exec_effect h
    obtain ⟨ho, hc⟩ := (rowEffect_ses heff).resolve_left hne
    obtain ⟨hst, hlegal⟩ := (condOpen_iff s).mp hc
    have hi : isOpen i = true := by
      rcases hj with rfl | ⟨-, he⟩
      · exact ho
      · rwa [isOpen_iff_event, ← he, ← isOpen_iff_event]
    exact ⟨hi, hst, cfgLegal_of_check hlegal⟩

end Sys2Proof.Proofs
end

section
/-! # A sender and a receiver at work

What an operation of a quiet run does to a sender (`SenderEffect`) and to a receiver (`ReceiverEffect`), said for both
disciplines at once: stop-and-wait is the window of one entry with two sequence numbers (44_stop_and_wait R200,
R210). -/

namespace Sys2Proof.Proofs

open Sys2Proof Sys2Proof.Machine Sys2Proof.Safety

/-! ## Rows and their buffers -/

/-- The buffer a row handles: that of an `RX_FRAME` (30_encoding R103). -/
def rowBuffer (i : Instr) : List Datagram :=
  match encode i with
  | (.dw, w :: buf) => if dwEv w = 5 then [buf] else []
  | _ => []

/-- The rows of a quiet run that carry no payload of the host's: those of RX_FRAME, TIMEOUT and TICK. -/
def PassiveRow (i : Instr) : Prop := isRow i = true ∧ (eventOf i = 5#3 ∨ eventOf i = 6#3 ∨ eventOf i = 7#3)

/-- `RX_FRAME` that goes on has run a row of this buffer. -/
theorem rxFrame_passive {buf : List Byte} {s t : State} (h : rxFrame buf s = .next t) :
    ∃ j, PassiveRow j ∧ rowBuffer j = [buf] ∧ RowEffect s j t := by
  obtain ⟨j, c, hj, hw, hx⟩ := rxFrame_row h
  have hd : (encode j).1 = .dw := by simpa [isRow] using hj
  have he : encode j = (.dw, dwByte (roleNow s) (modeNow s) 5 c :: buf) := Prod.ext hd hw
  exact ⟨j, ⟨hj, .inl ((eventOf_of_word he).trans (dwEv_dwByte ..))⟩, by simp [rowBuffer, he],
    rowEffect_of_exec (by simp [hd]) (by simp [hd]) hx⟩

/-- A row that is no `RX_FRAME` handles no buffer. -/
theorem rowBuffer_of_event {i : Instr} (h : eventOf i ≠ 5#3) : rowBuffer i = [] := by
  unfold rowBuffer
  split
  next w buf he => rw [eventOf_of_word he] at h; simp [h]
  next => rfl

/-! ## A sender -/

/-- The number of a sender's oldest outstanding segment, or of its next one where none is outstanding: the alternating
bit, or `base` (10_state R30, R31). -/
def position (k : Block) : Half :=
  match k.ses.mode with
  | .sw => seqOfBit k.b
  | .gbn => k.base

/-- The stored frames, oldest first. -/
def frames (k : Block) : List Datagram := k.rtx.map Entry.frame

@[simp] theorem frames_length (k : Block) : (frames k).length = k.rtx.length := List.length_map _

theorem sameSession_position {k k' : Block} (h : SameSession k k') : position k' = position k := by
  simp only [position, h.ses, h.b, h.base]

theorem sameSession_frames {k k' : Block} (h : SameSession k k') : frames k' = frames k := by
  simpa [frames, outstanding, Function.comp_def] using congrArg (List.map Prod.snd) h.rtx

/-- All that an operation of a quiet run does to a sender's block `k`: `bufs` is the buffer it handles, `ps` the payload
it takes from the source, `fs` what it emits. -/
inductive SenderEffect (k : Block) (bufs : List Datagram) (k' : Block) (ps : List (List Byte)) (fs : List Datagram) :
    Prop
  | kept (hps : ps = []) (hk : SameSession k k') (hfs : fs.Sublist (frames k))
  | sent (seq : Half) (flag : Byte) (p : List Byte) (f : Datagram)
      (hflag : flag = flagData ∧ ps = [p] ∧ k'.fin = false ∨ flag = flagFin ∧ p = [] ∧ ps = [] ∧ k'.fin = true)
      (hfin : k.fin = false) (hses : k'.ses = k.ses) (hpos : position k' = position k)
      (hseq : seq.toNat = ((position k).toNat + k.rtx.length) % k.ses.m.toNat)
      (hf : decodeSeg k.ses f = .segment seq flag p) (hq : frames k' = frames k ++ [f]) (hfs : fs = [f])
  | acked (v : Half) (p : List Byte) (d : Nat) (buf : Datagram) (hbuf : bufs = [buf])
      (hdec : decodeSeg k.ses buf = .segment v flagAck p) (hd : d < k.rtx.length)
      (hv : (position k).toNat + d ≡ v.toNat [MOD k.ses.m.toNat])
      (hpos : (position k').toNat = (v.toNat + 1) % k.ses.m.toNat) (hps : ps = []) (hses : k'.ses = k.ses)
      (hfin : k'.fin = k.fin) (hq : frames k' = (frames k).drop (d + 1)) (hfs : fs = [])

/-- An operation that only refuses, raises or lets time pass keeps the session and emits nothing. -/
theorem SenderEffect.silent {k k' : Block} {bufs : List Datagram} (h : SameSession k k') :
    SenderEffect k bufs k' [] [] :=
  .kept rfl h (List.nil_sublist _)

/-- The awaited acknowledgment of a stop-and-wait sender covers its one segment (44_stop_and_wait R203). -/
theorem swsAcked_effect {s : State} {buf : List Byte} (hk : BlockInv s.hw s.blk) (hc : condSwsAckOk buf s = true) :
    SenderEffect s.blk [buf]
      (setSt (if s.blk.fin then .done else .ready) (setB (flipBit s.blk.b) (cancelOldest 1 s))).blk [] [] := by
  simp only [condSwsAckOk, awaitedAck, Bool.and_eq_true, inState_iff] at hc
  obtain ⟨⟨hrun, hst⟩, hflag, hseq⟩ := hc
  obtain ⟨-, hmode, -, e, hq, -⟩ := awaiting_rtx hk hst
  have hm : s.blk.ses.m = 2#17 := ((hk.ses (by simp [hst])).sw hmode).2
  obtain ⟨v, p, hdec⟩ := (hasFlag_iff _ _).mp hflag
  have hv : v = seqOfBit s.blk.b := by rw [hdec] at hseq; exact of_decide_eq_true hseq
  have hflip : ∀ b : BitVec 1, (seqOfBit (flipBit b)).toNat = ((seqOfBit b).toNat + 1) % 2 := by decide
  refine .acked v p 0 buf rfl hdec (by simp [hq]) ?_ ?_ rfl rfl rfl (List.map_drop ..) rfl
  · rw [hv, position, hmode, Nat.add_zero]
  · rw [hv, hm, position]
    simp only [setSt_ses, setB_ses, setSt_b, setB_b, cancelOldest, setRtx_ses, hmode]
    exact hflip _

/-- A new acknowledgment of a Go-Back-N sender covers all up to its number (45_go_back_n R233). -/
theorem gbsAcked_effect {s : State} {buf : List Byte} (hk : BlockInv s.hw s.blk) (hc : condGbsAck buf s = true) :
    SenderEffect s.blk [buf] (finishIfDrained (retire (dec s buf).seqNum s)).blk [] [] := by
  simp only [condGbsAck, ackIsNew, Bool.and_eq_true, inState_iff, decide_eq_true_eq] at hc
  obtain ⟨⟨⟨hrun, hst⟩, hflag⟩, hnew⟩ := hc
  obtain ⟨hrole, hmode⟩ := (runsAs_iff _ _ _).mp hrun
  have hses : SesLegal s.hw s.blk.ses := hk.ses (by simp [hst])
  obtain ⟨v, p, hdec⟩ := (hasFlag_iff _ _).mp hflag
  have hseq : (dec s buf).seqNum = v := by rw [hdec]; rfl
  obtain ⟨c, hdone⟩ := finishIfDrained_eq_setSt (retire v s)
  rw [hseq] at hnew ⊢
  rw [hdone]
  refine .acked v p (ackDist v s) buf rfl hdec hnew ?_ ?_ rfl rfl rfl (List.map_drop ..) rfl
  · rw [position, hmode]
    exact add_seqDist _ _ (modulus_pos hses)
  · rw [position, setSt_ses, retire_eq]
    simp only [hmode, setSt_base]
    exact seqSucc_toNat v (modulus_pos hses) (modulus_le hses)

/-- A passive row at a sender. -/
theorem senderEffect_of_row {i : Instr} {s t : State} (hk : BlockInv s.hw s.blk) (hr : s.blk.ses.role = .sender)
    (hi : PassiveRow i) (h : RowEffect s i t) :
    ∃ fs, SenderEffect s.blk (rowBuffer i) t.blk [] fs ∧ t.env.out = s.env.out ++ fs.map .emit := by
  obtain ⟨hrow, hev⟩ := hi
  have quiet {k' : Block} {o : List Effect} (h : SameSession s.blk k') (ho : o = s.env.out) :
      ∃ fs, SenderEffect s.blk (rowBuffer i) k' [] fs ∧ o = s.env.out ++ fs.map .emit :=
    ⟨[], .silent h, by simp [ho]⟩
  cases h with
  | unchanged | result _ | refused _ | raised _ | ticked _ =>
    exact quiet ⟨rfl, rfl, rfl, rfl, rfl, rfl, rfl, rfl, rfl⟩ rfl
  | armed j => simp [isRow, encode] at hrow
  | cancelled n d hi => simp [isRow, hi] at hrow
  | opened hi hc => simp [(isOpen_iff_event i).mp hi] at hev
  | tornDown r m cause hc => simp [eventOf, encode] at hev
  | swsPushed p hc | swsClosed hc | gbsPushed p hc | gbsClosed hc => simp [eventOf, encode] at hev
  | swsAcked buf hc => exact ⟨[], swsAcked_effect hk hc, (List.append_nil _).symm⟩
  | gbsAcked buf hc =>
    refine ⟨[], gbsAcked_effect hk hc, ?_⟩
    obtain ⟨c, hdone⟩ := finishIfDrained_eq_setSt (retire (dec s buf).seqNum s)
    rw [hdone]
    exact (List.append_nil _).symm
  | swsResent c e rest hm hst hq =>
    have hrtx : outstanding (setRetxSeen (resendHead e rest (raise c s))).blk.rtx = outstanding s.blk.rtx := by
      rw [hq]; rfl
    exact ⟨[e.frame], .kept rfl ⟨rfl, rfl, rfl, rfl, rfl, hrtx, rfl, rfl, rfl⟩ (by simp [frames, hq]), rfl⟩
  | gbsResent c hm hst =>
    exact ⟨frames s.blk, .kept rfl ⟨rfl, rfl, rfl, rfl, rfl, outstanding_map_armEntry _ _, rfl, rfl, rfl⟩
      (List.Sublist.refl _), rfl⟩
  | acceptedData buf hi hr' | acceptedFin buf hi hr' | reAcked c hr' => simp [hr] at hr'

/-- A segment numbered behind the outstanding ones is sent. -/
theorem sent_effect {s : State} {k' : Block} {seq : Half} {flag : Byte} {p : List Byte} {ps : List (List Byte)}
    (hflag : flag = flagData ∧ ps = [p] ∧ k'.fin = false ∨ flag = flagFin ∧ p = [] ∧ ps = [] ∧ k'.fin = true)
    (hfin : s.blk.fin = false) (hpre : encodePre s.blk.ses seq flag p = true)
    (hseq : seq.toNat = ((position s.blk).toNat + s.blk.rtx.length) % s.blk.ses.m.toNat) (hses : k'.ses = s.blk.ses)
    (hpos : position k' = position s.blk) (hq : k'.rtx = (sendSegment seq flag p s).blk.rtx) :
    SenderEffect s.blk [] k' ps [encodeSeg s.blk.ses seq flag p] := by
  refine .sent seq flag p _ hflag hfin hses hpos hseq ?_ ?_ rfl
  · rw [encodeSeg_of_pre hpre]
    exact decodeSeg_frameBytes hpre
  · rw [frames, hq, sendSegment_eq, List.map_append]
    rfl

/-- The next number of a stop-and-wait sender that may send is its alternating bit. -/
theorem sws_next {s : State} {kind : TxKind} {p : List Byte} (hk : BlockInv s.hw s.blk)
    (hrun : runsAs .sender .sw s = true) (hadm : txAdmit kind p s = .ok) :
    (seqOfBit s.blk.b).toNat < s.blk.ses.m.toNat ∧
      (seqOfBit s.blk.b).toNat = ((position s.blk).toNat + s.blk.rtx.length) % s.blk.ses.m.toNat := by
  obtain ⟨hrole, hmode⟩ := (runsAs_iff _ _ _).mp hrun
  have hlt := sws_number_lt hk hrun hadm
  refine ⟨hlt, ?_⟩
  rw [position, hmode, ((hk.sws hrole hmode).ready (admitted_ready hk hadm)).1]
  exact (Nat.mod_eq_of_lt hlt).symm

/-- The next number of a Go-Back-N sender that may send is `next`. -/
theorem gbs_next {s : State} {kind : TxKind} {p : List Byte} (hk : BlockInv s.hw s.blk)
    (hrun : runsAs .sender .gbn s = true) (hadm : txAdmit kind p s = .ok) :
    s.blk.nxt.toNat < s.blk.ses.m.toNat ∧
      s.blk.nxt.toNat = ((position s.blk).toNat + s.blk.rtx.length) % s.blk.ses.m.toNat := by
  obtain ⟨hrole, hmode⟩ := (runsAs_iff _ _ _).mp hrun
  have hlt := gbs_number_lt hk hrun hadm
  refine ⟨hlt, ?_⟩
  rw [position, hmode]
  exact (Nat.mod_eq_of_lt hlt).symm.trans (gbn_nxt (hk.gbs hrole hmode) (admitted_ready hk hadm)).symm

/-- TX_PUSH at a sender: its payload is sent, or the command is refused (43_session_control R189). -/
theorem push_effect {s t : State} {p : List Byte} (hk : BlockInv s.hw s.blk) (h : execCmdTxPush p s = .next t) :
    ∃ fs, SenderEffect s.blk [] t.blk (if txAdmit .push p s = .ok then [p] else []) fs ∧
      t.env.out = s.env.out ++ fs.map .emit := by
  unfold execCmdTxPush at h
  split at h
  next hno =>
    obtain ⟨-, rfl⟩ := guarded_next h
    rw [if_neg hno]
    exact ⟨[], .silent ⟨rfl, rfl, rfl, rfl, rfl, rfl, rfl, rfl, rfl⟩, (List.append_nil _).symm⟩
  next hok =>
    have hadm : txAdmit .push p s = .ok := not_not.mp hok
    obtain ⟨-, -, hfin, hlen, -⟩ := (txAdmit_ok_iff _ _ _).mp hadm
    rw [if_pos hadm]
    split at h
    next hmode =>
      obtain ⟨hc, rfl⟩ := guarded_next h
      simp only [condSwsPush, Bool.and_eq_true] at hc
      obtain ⟨hlt, hseq⟩ := sws_next hk hc.1 hadm
      exact ⟨_, sent_effect (.inl ⟨rfl, rfl, hfin⟩) hfin (encodePre_data hlt (hlen rfl)) hseq rfl rfl rfl, rfl⟩
    next hmode =>
      obtain ⟨hc, rfl⟩ := guarded_next h
      simp only [condGbsPush, Bool.and_eq_true] at hc
      obtain ⟨hlt, hseq⟩ := gbs_next hk hc.1 hadm
      exact ⟨_, sent_effect (.inl ⟨rfl, rfl, hfin⟩) hfin (encodePre_data hlt (hlen rfl)) hseq rfl rfl rfl, rfl⟩

/-- TX_CLOSE at a sender: the FIN is sent, or the command is refused. -/
theorem close_effect {s t : State} (hk : BlockInv s.hw s.blk) (h : execCmdTxClose s = .next t) :
    ∃ fs, SenderEffect s.blk [] t.blk [] fs ∧ t.env.out = s.env.out ++ fs.map .emit := by
  unfold execCmdTxClose at h
  split at h
  next hno =>
    obtain ⟨-, rfl⟩ := guarded_next h
    exact ⟨[], .silent ⟨rfl, rfl, rfl, rfl, rfl, rfl, rfl, rfl, rfl⟩, (List.append_nil _).symm⟩
  next hok =>
    have hadm : txAdmit .close [] s = .ok := not_not.mp hok
    obtain ⟨-, -, hfin, -, -⟩ := (txAdmit_ok_iff _ _ _).mp hadm
    split at h
    next hmode =>
      obtain ⟨hc, rfl⟩ := guarded_next h
      simp only [condSwsClose, Bool.and_eq_true] at hc
      obtain ⟨hlt, hseq⟩ := sws_next hk hc.1 hadm
      exact ⟨_, sent_effect (.inr ⟨rfl, rfl, rfl, rfl⟩) hfin (encodePre_fin hlt) hseq rfl rfl rfl, rfl⟩
    next hmode =>
      obtain ⟨hc, rfl⟩ := guarded_next h
      simp only [condGbsClose, Bool.and_eq_true] at hc
      obtain ⟨hlt, hseq⟩ := gbs_next hk hc.1 hadm
      exact ⟨_, sent_effect (.inr ⟨rfl, rfl, rfl, rfl⟩) hfin (encodePre_fin hlt) hseq rfl rfl rfl, rfl⟩

/-! ## A receiver -/

/-- A datagram that the session reads as the acknowledgment of the segment numbered `a`. -/
def IsAck (c : Ses) (a : Nat) (f : Datagram) : Prop :=
  ∃ v : Half, v.toNat = a ∧ decodeSeg c f = .segment v flagAck []

/-- All that an operation of a quiet run does to a receiver's block `k`: `bufs` is the buffer it handles, `es` its
effects. What it acknowledges is the last number before the one it expects from now on. -/
inductive ReceiverEffect (k : Block) (bufs : List Datagram) (k' : Block) (es : List Effect) : Prop
  | kept (hk : SameSession k k') (hes : es = [])
  | answered (f : Datagram) (hk : SameSession k k')
      (hf : IsAck k.ses ((k.expected.toNat + k.ses.m.toNat - 1) % k.ses.m.toNat) f) (hes : es = [.emit f])
  | accepted (buf f : Datagram) (flag : Byte) (p : List Byte) (hbuf : bufs = [buf]) (hst : k.st = .listen)
      (hdec : decodeSeg k.ses buf = .segment k.expected flag p) (hses : k'.ses = k.ses)
      (hexp : k'.expected.toNat = (k.expected.toNat + 1) % k.ses.m.toNat) (hf : IsAck k.ses k.expected.toNat f)
      (hes : flag = flagData ∧ k'.st = .listen ∧ es = [.deliver p, .emit f] ∨
        flag = flagFin ∧ k'.st = .closed ∧ es = [.signalEos, .emit f])

/-- The modulus of an open session, and that a receiver expects a number below it. -/
theorem receiver_ranges {hw : Config.Params} {k : Block} (hk : BlockInv hw k) (hr : k.ses.role = .receiver)
    (hst : k.st = .listen ∨ k.st = .closed) :
    SesLegal hw k.ses ∧ k.expected.toNat < k.ses.m.toNat := by
  have hidle : k.st ≠ .idle := by rcases hst with h | h <;> simp [h]
  exact ⟨hk.ses hidle, (hk.rcv hr).expected hidle⟩

/-- The other of the two numbers of stop-and-wait is the next one, and the one before. -/
theorem otherSeq_toNat {x : Half} (h : x.toNat < 2) : (otherSeq x).toNat = (x.toNat + 1) % 2 := by
  obtain rfl | rfl : x = 0#16 ∨ x = 1#16 := by
    simp only [← BitVec.toNat_inj, BitVec.toNat_ofNat]
    omega
  all_goals rfl

/-- What is expected next is the next number modulo `M`, in both disciplines. -/
theorem nextExpected_toNat {s : State} (hses : SesLegal s.hw s.blk.ses)
    (hexp : s.blk.expected.toNat < s.blk.ses.m.toNat) :
    (nextExpected s).toNat = (s.blk.expected.toNat + 1) % s.blk.ses.m.toNat := by
  cases hm : s.blk.ses.mode with
  | sw =>
    rw [nextExpected_sw hm]
    rw [(hses.sw hm).2] at hexp ⊢
    exact otherSeq_toNat hexp
  | gbn =>
    rw [nextExpected_gbn hm, expectedSucc]
    exact seqSucc_toNat _ (modulus_pos hses) (modulus_le hses)

/-- The number before `a` modulo `m`. -/
theorem seqPred_toNat (a : Half) {m : BitVec 17} (h0 : 0 < m.toNat) (hm : m.toNat ≤ 65536) :
    (seqPred a m).toNat = (a.toNat + m.toNat - 1) % m.toNat := by
  have hcast : ((a.toNat : Int) - 1) % m.toNat = ((a.toNat + m.toNat - 1 : Nat) : Int) % m.toNat := by
    rw [← Int.add_emod_right, show (a.toNat : Int) - 1 + m.toNat = (a.toNat + m.toNat - 1 : Nat) by omega]
  have hlt := Nat.mod_lt (a.toNat + m.toNat - 1) h0
  rw [seqPred, hcast, ← Int.natCast_emod, Int.toNat_natCast, BitVec.toNat_ofNat]
  exact Nat.mod_eq_of_lt (by omega)

/-- What has been acknowledged last is the number before the expected one modulo `M`, in both disciplines. -/
theorem lastAcked_toNat {s : State} (hses : SesLegal s.hw s.blk.ses)
    (hexp : s.blk.expected.toNat < s.blk.ses.m.toNat) :
    (lastAcked s).toNat = (s.blk.expected.toNat + s.blk.ses.m.toNat - 1) % s.blk.ses.m.toNat := by
  cases hm : s.blk.ses.mode with
  | sw =>
    rw [lastAcked_sw hm]
    rw [(hses.sw hm).2] at hexp ⊢
    exact otherSeq_toNat hexp
  | gbn =>
    rw [lastAcked_gbn hm]
    exact seqPred_toNat _ (modulus_pos hses) (modulus_le hses)

theorem mkAck_isAck {c : Ses} {a : Half} (h : a.toNat < c.m.toNat) : IsAck c a.toNat (mkAck c a) :=
  ⟨a, rfl, decodeSeg_mkAck h⟩

/-- What a receiver reads of a segment it accepts, what it expects next and how it acknowledges. -/
theorem accepted_facts {s : State} {buf : List Byte} {flag : Byte} (hk : BlockInv s.hw s.blk)
    (hr : s.blk.ses.role = .receiver) (hst : s.blk.st = .listen) (hf : (dec s buf).hasFlag flag = true)
    (hseq : (dec s buf).hasSeq s.blk.expected = true) :
    ∃ p, dec s buf = .segment s.blk.expected flag p ∧
      (nextExpected s).toNat = (s.blk.expected.toNat + 1) % s.blk.ses.m.toNat ∧
      IsAck s.blk.ses s.blk.expected.toNat (mkAck s.blk.ses s.blk.expected) := by
  obtain ⟨hses, hexp⟩ := receiver_ranges hk hr (.inl hst)
  obtain ⟨v, p, hdec⟩ := (hasFlag_iff _ _).mp hf
  obtain rfl : v = s.blk.expected := by rw [hdec] at hseq; exact of_decide_eq_true hseq
  exact ⟨p, hdec, nextExpected_toNat hses hexp, mkAck_isAck hexp⟩

/-- A row at a receiver that is neither an OPEN nor an ABORT. -/
theorem receiverEffect_of_row {i : Instr} {s t : State} (hk : BlockInv s.hw s.blk) (hr : s.blk.ses.role = .receiver)
    (hrow : isRow i = true) (hev : eventOf i ≠ 1#3 ∧ eventOf i ≠ 4#3) (h : RowEffect s i t) :
    ∃ es, ReceiverEffect s.blk (rowBuffer i) t.blk es ∧ t.env.out = s.env.out ++ es := by
  have sender {m : Mode} (hrun : runsAs .sender m s = true) : False := by
    have hs := ((runsAs_iff _ _ _).mp hrun).1
    rw [hr] at hs
    cases hs
  cases h with
  | unchanged | result _ | refused _ | raised _ | ticked _ =>
    exact ⟨[], .kept ⟨rfl, rfl, rfl, rfl, rfl, rfl, rfl, rfl, rfl⟩ rfl, (List.append_nil _).symm⟩
  | armed j => simp [isRow, encode] at hrow
  | cancelled n d hi => simp [isRow, hi] at hrow
  | opened hi hc => exact absurd ((isOpen_iff_event i).mp hi) hev.1
  | tornDown r m cause hc => simp [eventOf, encode] at hev
  | swsPushed p hc | swsClosed hc | gbsPushed p hc | gbsClosed hc =>
    simp only [condSwsPush, condSwsClose, condGbsPush, condGbsClose, Bool.and_eq_true] at hc
    exact (sender hc.1).elim
  | swsAcked buf hc =>
    simp only [condSwsAckOk, Bool.and_eq_true] at hc
    exact (sender hc.1.1).elim
  | gbsAcked buf hc =>
    simp only [condGbsAck, Bool.and_eq_true] at hc
    exact (sender hc.1.1.1).elim
  | swsResent c e rest hm hst hq | gbsResent c hm hst => exact (sender hm).elim
  | acceptedData buf hi hr hst hf hseq =>
    have hbuf : rowBuffer i = [buf] := by rcases hi with rfl | rfl <;> rfl
    obtain ⟨p, hdec, hnext, hack⟩ := accepted_facts hk hr hst hf hseq
    rw [acceptData_eq, hdec]
    exact ⟨_, .accepted buf _ flagData p hbuf hst hdec rfl hnext hack (.inl ⟨rfl, hst, rfl⟩), rfl⟩
  | acceptedFin buf hi hr hst hf hseq =>
    have hbuf : rowBuffer i = [buf] := by rcases hi with rfl | rfl <;> rfl
    obtain ⟨p, hdec, hnext, hack⟩ := accepted_facts hk hr hst hf hseq
    rw [acceptFin_eq, hdec]
    exact ⟨_, .accepted buf _ flagFin p hbuf hst hdec rfl hnext hack (.inr ⟨rfl, rfl, rfl⟩), rfl⟩
  | reAcked c hr hst =>
    obtain ⟨hses, hexp⟩ := receiver_ranges hk hr hst
    exact ⟨_, .answered _ ⟨rfl, rfl, rfl, rfl, rfl, rfl, rfl, rfl, rfl⟩
      (lastAcked_toNat hses hexp ▸ mkAck_isAck (lastAcked_lt hk hr hst)) rfl, rfl⟩

end Sys2Proof.Proofs
end

section
/-! # Steps of a quiet run

What a step takes up where the environment neither resets nor opens nor aborts and issues nothing by itself
(`QuietMoment`), and what it does to a sender and to a receiver. -/

namespace Sys2Proof.Proofs

open Sys2Proof Sys2Proof.Machine Sys2Proof.Safety

/-! ## A quiet environment -/

/-- Only quiet moments are to come, and the host has issued only TX_PUSH and TX_CLOSE. -/
structure QuietEnv (e : Env) : Prop where
  agenda : ∀ m ∈ e.agenda, QuietMoment m
  cmds : ∀ c ∈ e.cmds, c.code = 2 ∨ c.code = 3

theorem quietEnv_noIssue {e : Env} (h : QuietEnv e) : NoIssue e.agenda := fun _ _ hm => h.agenda _ hm

/-- What is taken is the first of what its source offers. -/
def Offers (s : State) : Taken → Prop
  | .command c rest => s.env.cmds = c :: rest
  | .frame buf rest => s.env.chIn = buf :: rest
  | .timeout => True
  | .nothing => True

theorem takeOther_offers (s : State) : Offers s (takeOther s) := by
  unfold takeOther
  split
  next h => exact h
  next =>
    split
    · trivial
    · split
      next h => exact h
      next => trivial

theorem arbitrate_offers (s : State) : Offers s (arbitrate s) := by
  unfold arbitrate
  split
  next h =>
    split
    · exact h
    · exact takeOther_offers s
  next => exact takeOther_offers s

theorem offered_offers (src : EventSource) (s : State) : Offers s (offered src s) := by
  cases src with
  | command =>
    simp only [offered]
    split
    next h => exact h
    next => trivial
  | frame =>
    simp only [offered]
    split
    next h => exact h
    next => trivial
  | timeout =>
    simp only [offered]
    split <;> trivial

/-- The words a quiet step takes up: the oldest datagram at `ch_in`, a TX_PUSH or TX_CLOSE, TIMEOUT or TICK. -/
inductive QuietWord (before after : List Datagram) : Format → List Byte → Prop
  | frame (buf : Datagram) (h : before = buf :: after) : QuietWord before after .frame buf
  | command (c : HostCmd) (hc : c.code = 2 ∨ c.code = 3) (h : after = before) : QuietWord before after .cmd (cmdWord c)
  | timed (w : Byte) (hw : dwEv w = 6#3 ∨ dwEv w = 7#3) (h : after = before) : QuietWord before after .dw [w]

theorem fetchTaken_quiet {k : Taken} {s u : State} {f : Format} {bs : List Byte} (hq : QuietEnv s.env)
    (ho : Offers s k) (h : fetchTaken k s = .word f bs u) : QuietWord s.env.chIn u.env.chIn f bs ∧ QuietEnv u.env := by
  cases k with
  | command c rest =>
    cases h
    have hmem : ∀ x ∈ c :: rest, x.code = 2 ∨ x.code = 3 := fun x hx => hq.cmds x (ho ▸ hx)
    exact ⟨.command c (hmem c List.mem_cons_self) rfl, hq.agenda, fun x hx => hmem x (List.mem_cons_of_mem c hx)⟩
  | frame buf rest => cases h; exact ⟨.frame _ ho, hq.agenda, hq.cmds⟩
  | timeout => cases h; exact ⟨.timed _ (.inl (dwEv_dwByte ..)) rfl, hq⟩
  | nothing => cases h

/-- A word that a quiet step takes up. -/
theorem quiet_fetch_word {s u : State} {f : Format} {bs : List Byte} (hq : QuietEnv s.env)
    (h : fetch s = .word f bs u) : QuietWord s.env.chIn u.env.chIn f bs ∧ QuietEnv u.env := by
  cases ha : s.env.agenda with
  | nil =>
    simp only [fetch, ha] at h
    exact fetchTaken_quiet hq (arbitrate_offers s) h
  | cons m rest =>
    rw [fetch_cons ha] at h
    have hrest : QuietEnv (withAgenda rest s).env :=
      ⟨fun x hx => hq.agenda x (ha ▸ List.mem_cons_of_mem m hx), hq.cmds⟩
    cases m with
    | arrive | command | csrRead | csrWrite | reset => cases h
    | tick => cases h; exact ⟨.timed _ (.inr (dwEv_dwByte ..)) rfl, hrest⟩
    | serve => exact fetchTaken_quiet (s := withAgenda rest s) hrest (arbitrate_offers _) h
    | pick src => exact fetchTaken_quiet (s := withAgenda rest s) hrest (offered_offers _ _) h
    | issue f' bs' => exact (hq.agenda (.issue f' bs') (ha ▸ List.mem_cons_self)).elim

/-- A quiet happening that is complete when it is taken up keeps the session, the datagrams and the output. -/
theorem quiet_fetch_still {s t : State} (hq : QuietEnv s.env) (h : fetch s = .still t) :
    SameSession s.blk t.blk ∧ t.env.out = s.env.out ∧ t.env.chIn = s.env.chIn ∧ QuietEnv t.env := by
  have same : SameSession s.blk s.blk := ⟨rfl, rfl, rfl, rfl, rfl, rfl, rfl, rfl, rfl⟩
  cases ha : s.env.agenda with
  | nil =>
    simp only [fetch, ha] at h
    rw [fetchTaken_still h]
    exact ⟨same, rfl, rfl, hq⟩
  | cons m rest =>
    rw [fetch_cons ha] at h
    have hm : QuietMoment m := hq.agenda m (ha ▸ List.mem_cons_self)
    have hrest : QuietEnv (withAgenda rest s).env :=
      ⟨fun x hx => hq.agenda x (ha ▸ List.mem_cons_of_mem m hx), hq.cmds⟩
    cases m with
    | arrive | reset | issue => exact hm.elim
    | command c =>
      cases h
      refine ⟨same, rfl, rfl, hrest.agenda, fun x hx => ?_⟩
      rcases List.mem_append.mp hx with hx | hx
      · exact hq.cmds x hx
      · rw [List.mem_singleton.mp hx]; exact hm
    | csrRead n => cases h; exact ⟨same, rfl, rfl, hrest.agenda, hrest.cmds⟩
    | csrWrite n v => cases h; exact ⟨⟨rfl, rfl, rfl, rfl, rfl, rfl, rfl, rfl, rfl⟩, rfl, rfl, hrest⟩
    | serve | pick => rw [fetchTaken_still h]; exact ⟨same, rfl, rfl, hrest⟩
    | tick => cases h

/-! ## A quiet step -/

/-- An operation leaves what is offered at the ports as it is. -/
theorem exec_ports {i : Instr} {s t : State} (h : exec i s = .next t) :
    t.env.agenda = s.env.agenda ∧ t.env.cmds = s.env.cmds ∧ t.env.chIn = s.env.chIn := by
  obtain ⟨j, heff, -⟩ := exec_effect h
  cases heff with
  | gbsAcked buf hc =>
    obtain ⟨c, hdone⟩ := finishIfDrained_eq_setSt (retire (dec s buf).seqNum s)
    rw [hdone]
    exact ⟨rfl, rfl, rfl⟩
  | _ => exact ⟨rfl, rfl, rfl⟩

/-- The state in which what a step has taken up is run: the parameters, the block and the output are as before. -/
structure TakenUp (s u : State) : Prop where
  hw : u.hw = s.hw
  blk : u.blk = s.blk
  out : u.env.out = s.env.out

/-- All that a quiet step can be. -/
inductive QuietStep (s t : State) : Prop
  | idle (hk : SameSession s.blk t.blk) (hout : t.env.out = s.env.out) (hch : t.env.chIn = s.env.chIn)
      (hacc : acceptedNext s = [])
  | frame (u : State) (buf : Datagram) (hu : TakenUp s u) (hx : rxFrame buf u = .next t)
      (hch : s.env.chIn = buf :: t.env.chIn) (hacc : acceptedNext s = [])
  | push (u : State) (p : List Byte) (hu : TakenUp s u) (hx : exec (.cmdTxPush p) u = .next t)
      (hch : t.env.chIn = s.env.chIn) (hacc : acceptedNext s = if txAdmit .push p u = .ok then [p] else [])
  | close (u : State) (hu : TakenUp s u) (hx : exec .cmdTxClose u = .next t) (hch : t.env.chIn = s.env.chIn)
      (hacc : acceptedNext s = [])
  | timed (u : State) (i : Instr) (hu : TakenUp s u) (hi : PassiveRow i) (hbuf : rowBuffer i = [])
      (hx : exec i u = .next t) (hch : t.env.chIn = s.env.chIn) (hacc : acceptedNext s = [])

theorem acceptedNext_still {s t : State} (h : fetch s = .still t) : acceptedNext s = [] := by
  simp only [acceptedNext, h]

/-- Only a command takes a payload. -/
theorem acceptedNext_of_not_cmd {s u : State} {f : Format} {bs : List Byte} {i : Instr} (h : fetch s = .word f bs u)
    (hd : decodeIn u f bs = .ok i) (hi : (encode i).1 ≠ .cmd) : acceptedNext s = [] := by
  simp only [acceptedNext, h, hd]
  split
  next hc _ => exact absurd hc hi
  next => rfl

theorem decodeIn_push {u : State} {c : HostCmd} (h : c.code = 2) :
    decodeIn u .cmd (cmdWord c) = .ok (.cmdTxPush c.payload) := by
  simp [decodeIn, decode, decodeCmdWord, cmdWord, h]

theorem decodeIn_close {u : State} {c : HostCmd} (h : c.code = 3) : decodeIn u .cmd (cmdWord c) = .ok .cmdTxClose := by
  simp [decodeIn, decode, decodeCmdWord, cmdWord, h]

/-- A step in a quiet environment is one of five, and the environment stays quiet. -/
theorem quiet_step {s t : State} (hq : QuietEnv s.env) (h : step s = .next t) : QuietStep s t ∧ QuietEnv t.env := by
  rcases step_next h with hs | ⟨f, bs, u, i, hf, hd, hx⟩
  · obtain ⟨hk, hout, hch, hqt⟩ := quiet_fetch_still hq hs
    exact ⟨.idle hk hout hch (acceptedNext_still hs), hqt⟩
  obtain ⟨hw, hblk, hout, -⟩ := fetch_word hf
  have hu : TakenUp s u := ⟨hw, hblk, hout⟩
  obtain ⟨hword, hqu⟩ := quiet_fetch_word hq hf
  obtain ⟨hag, hcmds, hch⟩ := exec_ports hx
  refine ⟨?_, fun m hm => hqu.agenda m (hag ▸ hm), fun c hc => hqu.cmds c (hcmds ▸ hc)⟩
  cases hword with
  | frame buf h =>
    obtain rfl : decodeFrameWord bs = i := by injection hd
    have hi : (encode (decodeFrameWord bs)).1 = .frame := by
      rcases frameWord_cases bs with ⟨_, _, _, e⟩ | ⟨_, _, e⟩ | ⟨_, _, e⟩ | e <;> rw [e] <;> rfl
    exact .frame u bs hu (exec_frameWord bs u ▸ hx) (by rw [h, hch]) (acceptedNext_of_not_cmd hf hd (by simp [hi]))
  | command c hc h =>
    rcases hc with hc | hc
    · obtain rfl : .cmdTxPush c.payload = i := by
        rw [decodeIn_push hc] at hd
        injection hd
      refine .push u c.payload hu hx (hch.trans h) ?_
      simp only [acceptedNext, hf, hd, encode]
      simp
    · obtain rfl : .cmdTxClose = i := by
        rw [decodeIn_close hc] at hd
        injection hd
      refine .close u hu hx (hch.trans h) ?_
      simp only [acceptedNext, hf, hd, encode]
      simp
  | timed w hw h =>
    obtain ⟨hrow, hev⟩ := dwRows_event w [] i (decodeIn_dw hd)
    have hi : (encode i).1 = .dw := by simpa [isRow] using hrow
    exact .timed u i hu ⟨hrow, .inr (hev ▸ hw)⟩ (rowBuffer_of_event (by rcases hw with hw | hw <;> simp [hev, hw])) hx
      (hch.trans h) (acceptedNext_of_not_cmd hf hd (by simp [hi]))

/-! ## A quiet step at a sender and at a receiver -/

/-- A passive row that goes on has the effect of a row. -/
theorem passive_effect {i : Instr} {s t : State} (hi : PassiveRow i) (h : exec i s = .next t) : RowEffect s i t := by
  have hd : (encode i).1 = .dw := by simpa [isRow] using hi.1
  exact rowEffect_of_exec (by simp [hd]) (by simp [hd]) h

/-- What a quiet step does to a sender: the buffers it handles leave `chIn`, and the payloads it takes are accepted. -/
theorem sender_step {s t : State} (hk : BlockInv s.hw s.blk) (hr : s.blk.ses.role = .sender)
    (h : QuietStep s t) : ∃ bufs fs, SenderEffect s.blk bufs t.blk (acceptedNext s) fs ∧
      t.env.out = s.env.out ++ fs.map .emit ∧ s.env.chIn = bufs ++ t.env.chIn := by
  cases h with
  | idle hk hout hch hacc =>
    rw [hacc]
    exact ⟨[], [], .silent hk, by simp [hout], hch.symm⟩
  | frame u buf hu hx hch hacc =>
    obtain ⟨j, hj, hbuf, heff⟩ := rxFrame_passive hx
    rw [← hu.hw, ← hu.blk] at hk
    obtain ⟨fs, hs, hout⟩ := senderEffect_of_row hk (hu.blk ▸ hr) hj heff
    rw [hacc]
    exact ⟨[buf], fs, hbuf ▸ hu.blk ▸ hs, hu.out ▸ hout, hch⟩
  | push u p hu hx hch hacc =>
    rw [← hu.hw, ← hu.blk] at hk
    obtain ⟨fs, hs, hout⟩ := push_effect hk hx
    rw [hacc]
    exact ⟨[], fs, hu.blk ▸ hs, hu.out ▸ hout, hch.symm⟩
  | close u hu hx hch hacc =>
    rw [← hu.hw, ← hu.blk] at hk
    obtain ⟨fs, hs, hout⟩ := close_effect hk hx
    rw [hacc]
    exact ⟨[], fs, hu.blk ▸ hs, hu.out ▸ hout, hch.symm⟩
  | timed u i hu hi hbuf hx hch hacc =>
    rw [← hu.hw, ← hu.blk] at hk
    obtain ⟨fs, hs, hout⟩ := senderEffect_of_row hk (hu.blk ▸ hr) hi (passive_effect hi hx)
    rw [hbuf, hu.blk] at hs
    rw [hacc]
    exact ⟨[], fs, hs, hu.out ▸ hout, hch.symm⟩

/-- What a quiet step does to a receiver. -/
theorem receiver_step {s t : State} (hk : BlockInv s.hw s.blk) (hr : s.blk.ses.role = .receiver)
    (h : QuietStep s t) : ∃ bufs es, ReceiverEffect s.blk bufs t.blk es ∧
      t.env.out = s.env.out ++ es ∧ s.env.chIn = bufs ++ t.env.chIn := by
  have run {u : State} {j : Instr} (hu : TakenUp s u) (hrow : isRow j = true)
      (hev : eventOf j ≠ 1#3 ∧ eventOf j ≠ 4#3) (heff : RowEffect u j t) :
      ∃ es, ReceiverEffect s.blk (rowBuffer j) t.blk es ∧ t.env.out = s.env.out ++ es := by
    rw [← hu.hw, ← hu.blk] at hk
    obtain ⟨es, he, hout⟩ := receiverEffect_of_row hk (hu.blk ▸ hr) hrow hev heff
    exact ⟨es, hu.blk ▸ he, hu.out ▸ hout⟩
  have passive {j : Instr} (hj : PassiveRow j) : eventOf j ≠ 1#3 ∧ eventOf j ≠ 4#3 := by
    obtain ⟨-, he | he | he⟩ := hj <;> simp [he]
  have command {u : State} {i : Instr} (hu : TakenUp s u) (hcmd : (encode i).1 = .cmd)
      (hres : ∀ code, i ≠ .cmdReserved code) (hev : eventOf i = 2#3 ∨ eventOf i = 3#3) (hx : exec i u = .next t)
      (hch : t.env.chIn = s.env.chIn) : ∃ bufs es, ReceiverEffect s.blk bufs t.blk es ∧
        t.env.out = s.env.out ++ es ∧ s.env.chIn = bufs ++ t.env.chIn := by
    obtain ⟨j, hrow, he, hx⟩ := port_row (.inr hcmd) hres hx
    have hd : (encode j).1 = .dw := by simpa [isRow] using hrow
    have hbuf : rowBuffer j = [] := rowBuffer_of_event (by rw [he]; rcases hev with h | h <;> simp [h])
    obtain ⟨es, hs, hout⟩ := run hu hrow (by rw [he]; rcases hev with h | h <;> simp [h])
      (rowEffect_of_exec (by simp [hd]) (by simp [hd]) hx)
    exact ⟨[], es, hbuf ▸ hs, hout, hch.symm⟩
  cases h with
  | idle hk hout hch hacc => exact ⟨[], [], .kept hk rfl, by simp [hout], hch.symm⟩
  | frame u buf hu hx hch hacc =>
    obtain ⟨j, hj, hbuf, heff⟩ := rxFrame_passive hx
    obtain ⟨es, hs, hout⟩ := run hu hj.1 (passive hj) heff
    exact ⟨[buf], es, hbuf ▸ hs, hout, hch⟩
  | push u p hu hx hch hacc => exact command hu rfl (by simp) (.inl rfl) hx hch
  | close u hu hx hch hacc => exact command hu rfl (by simp) (.inr rfl) hx hch
  | timed u i hu hi hbuf hx hch hacc =>
    obtain ⟨es, hs, hout⟩ := run hu hi.1 (passive hi) (passive_effect hi hx)
    exact ⟨[], es, hbuf ▸ hs, hout, hch.symm⟩

end Sys2Proof.Proofs
end

section
/-! # Segments and acknowledgments in flight

Segments carry numbers modulo `M`; behind each stands its place in the stream of segments sent, and behind each
acknowledgment the count of segments the receiver had taken. A channel that does not reorder keeps the places within a
window of each other and the counts from falling (`SegmentsInFlight`, `AcksInFlight`), so that numbers below `M > W`
tell places apart (20_memory R72, R80). -/

namespace Sys2Proof.Proofs

open Sys2Proof Sys2Proof.Machine Sys2Proof.Safety

/-! ## Places and numbers -/

/-- Places less than a modulus apart that have equal numbers are equal. -/
theorem eq_of_mod_eq_of_window {x y w m : Nat} (h : x % m = y % m) (hxy : x ≤ y + w) (hyx : y ≤ x + w) (hw : w < m) :
    x = y := by
  refine Nat.ModEq.eq_of_abs_lt h ?_
  rw [abs_lt]
  omega

/-- The sequence number of place `j`. -/
def numberOf (m : BitVec 17) (j : Nat) : Half := BitVec.ofNat 16 (j % m.toNat)

/-- A window that fits a modulus that fits the sequence field (10_state R25, R26, 43_session_control R183). -/
structure WindowOk (c : Ses) : Prop where
  pos : 1 ≤ c.w.toNat
  lt : c.w.toNat < c.m.toNat
  le : c.m.toNat ≤ 65536

theorem sesLegal_windowOk {hw : Config.Params} {c : Ses} (h : SesLegal hw c) : WindowOk c := by
  cases hm : c.mode with
  | sw =>
    obtain ⟨hw1, hm2⟩ := h.sw hm
    exact ⟨by rw [hw1]; decide, by rw [hw1, hm2]; decide, by rw [hm2]; decide⟩
  | gbn =>
    obtain ⟨hpos, -, hlt, hle⟩ := h.gbn hm
    exact ⟨hpos, hlt, hle⟩

theorem numberOf_toNat {m : BitVec 17} (h0 : 0 < m.toNat) (hm : m.toNat ≤ 65536) (j : Nat) :
    (numberOf m j).toNat = j % m.toNat := by
  have := Nat.mod_lt j h0
  rw [numberOf, BitVec.toNat_ofNat]
  exact Nat.mod_eq_of_lt (by omega)

/-- The segment at place `j` of a stream: the payload accepted there, or the FIN behind the last one. -/
def segmentOf (m : BitVec 17) (acc : List (List Byte)) (j : Nat) : Decoded :=
  match acc[j]? with
  | some p => .segment (numberOf m j) flagData p
  | none => .segment (numberOf m j) flagFin []

/-- The acknowledgment of the first `n` segments: it names the last of them. -/
def ackOf (m : BitVec 17) (n : Nat) : Decoded := .segment (numberOf m (n + m.toNat - 1)) flagAck []

theorem segmentOf_data {m : BitVec 17} {acc : List (List Byte)} {j : Nat} {p : List Byte} (h : acc[j]? = some p) :
    segmentOf m acc j = .segment (numberOf m j) flagData p := by
  simp only [segmentOf, h]

theorem segmentOf_fin {m : BitVec 17} {acc : List (List Byte)} {j : Nat} (h : acc.length ≤ j) :
    segmentOf m acc j = .segment (numberOf m j) flagFin [] := by
  simp only [segmentOf, List.getElem?_eq_none h]

/-- The segments before the end of the stream stand when it grows. -/
theorem segmentOf_append {m : BitVec 17} {acc ps : List (List Byte)} {j : Nat} (h : j < acc.length) :
    segmentOf m (acc ++ ps) j = segmentOf m acc j := by
  simp only [segmentOf, List.getElem?_append_left h]

/-- What a segment says of its place. -/
theorem segmentOf_inv {m : BitVec 17} {acc : List (List Byte)} {j : Nat} {v : Half} {flag : Byte} {p : List Byte}
    (h : segmentOf m acc j = .segment v flag p) :
    v = numberOf m j ∧ (flag = flagData → acc[j]? = some p) ∧ (flag = flagFin → acc.length ≤ j) := by
  cases hj : acc[j]? with
  | some q =>
    rw [segmentOf_data hj] at h
    cases h
    exact ⟨rfl, fun _ => rfl, fun h => absurd h (by decide)⟩
  | none =>
    rw [segmentOf_fin (List.getElem?_eq_none_iff.mp hj)] at h
    cases h
    exact ⟨rfl, fun h => absurd h (by decide), fun _ => List.getElem?_eq_none_iff.mp hj⟩

theorem segmentOf_not_corrupt (m : BitVec 17) (acc : List (List Byte)) (j : Nat) :
    (segmentOf m acc j).isCorrupt = false := by
  unfold segmentOf
  split <;> rfl

/-! ## What is heard of datagrams -/

/-- What a session reads of datagrams: the segments, without the corrupt ones. -/
def heard (c : Ses) (fs : List Datagram) : List Decoded := (fs.map (decodeSeg c)).filter (fun d => !d.isCorrupt)

@[simp] theorem heard_nil (c : Ses) : heard c [] = [] := rfl

@[simp] theorem heard_append (c : Ses) (fs gs : List Datagram) : heard c (fs ++ gs) = heard c fs ++ heard c gs := by
  simp [heard]

theorem heard_sublist {c : Ses} {fs gs : List Datagram} (h : fs.Sublist gs) : (heard c fs).Sublist (heard c gs) :=
  (h.map _).filter _

/-- A rejected datagram is not heard. -/
theorem heard_of_corrupt {c : Ses} {f : Datagram} (h : (decodeSeg c f).isCorrupt = true) : heard c [f] = [] := by
  simp [heard, h]

theorem heard_of_segment {c : Ses} {f : Datagram} {v : Half} {flag : Byte} {p : List Byte}
    (h : decodeSeg c f = .segment v flag p) : heard c [f] = [.segment v flag p] := by
  simp [heard, h, Decoded.isCorrupt]

/-- One datagram is heard as one segment or not at all. -/
theorem heard_singleton (c : Ses) (f : Datagram) : heard c [f] = [] ∨ ∃ d, heard c [f] = [d] := by
  cases h : decodeSeg c f with
  | segment v flag p => exact .inr ⟨_, heard_of_segment h⟩
  | corrupt sub => exact .inl (heard_of_corrupt (by rw [h]; rfl))

/-- Stored frames are heard as the segments they hold. -/
theorem heard_of_map {c : Ses} {fs : List Datagram} {m : BitVec 17} {acc : List (List Byte)} {js : List Nat}
    (h : fs.map (decodeSeg c) = js.map (segmentOf m acc)) : heard c fs = js.map (segmentOf m acc) := by
  rw [heard, h, List.filter_eq_self]
  intro d hd
  obtain ⟨j, -, rfl⟩ := List.mem_map.mp hd
  simp [segmentOf_not_corrupt]

/-- Two sessions that read the same frames alike: equal algorithm, maximum payload and modulus. -/
structure SameFraming (c c' : Ses) : Prop where
  alg : c.alg = c'.alg
  mss : c.mss = c'.mss
  m : c.m = c'.m

theorem decodeSeg_congr {c c' : Ses} (h : SameFraming c c') : decodeSeg c = decodeSeg c' := by
  funext f
  simp only [decodeSeg, decodeFields, h.alg, h.mss, h.m]

/-! ## Segments that stand for places in order -/

/-- The segments `ds` are those (`g`) of a list of places that are pairwise related by `R` and each meet `P`. -/
def Carries (g : Nat → Decoded) (R : Nat → Nat → Prop) (P : Nat → Prop) (ds : List Decoded) : Prop :=
  ∃ js : List Nat, ds = js.map g ∧ js.Pairwise R ∧ ∀ j ∈ js, P j

section
variable {g g' : Nat → Decoded} {R : Nat → Nat → Prop} {P P' : Nat → Prop} {ds es : List Decoded} {d : Decoded}

theorem carries_nil : Carries g R P [] := ⟨[], rfl, .nil, by simp⟩

/-- Segments may be lost. -/
theorem Carries.sublist (h : Carries g R P ds) (hs : es.Sublist ds) : Carries g R P es := by
  obtain ⟨js, rfl, hR, hP⟩ := h
  obtain ⟨js', hsub, rfl⟩ := List.sublist_map_iff.mp hs
  exact ⟨js', rfl, hR.sublist hsub, fun j hj => hP j (hsub.subset hj)⟩

/-- A segment may be delivered twice. -/
theorem Carries.duplicate (hrefl : ∀ j, R j j) (h : Carries g R P (ds ++ d :: es)) :
    Carries g R P (ds ++ d :: d :: es) := by
  obtain ⟨js, heq, hR, hP⟩ := h
  obtain ⟨js₁, js₂, rfl, h₁, h₂⟩ := List.map_eq_append_iff.mp heq.symm
  obtain ⟨j, js₃, rfl, hj, h₃⟩ := List.map_eq_cons_iff.mp h₂
  obtain ⟨hR₁, hR₂, hcross⟩ := List.pairwise_append.mp hR
  obtain ⟨hhead, hR₃⟩ := List.pairwise_cons.mp hR₂
  refine ⟨js₁ ++ j :: j :: js₃, by simp [h₁, hj, h₃], ?_, fun x hx => hP x (by simpa using hx)⟩
  refine List.pairwise_append.mpr ⟨hR₁, ?_, fun x hx y hy => hcross x hx y (by simpa using hy)⟩
  exact List.pairwise_cons.mpr ⟨List.forall_mem_cons.mpr ⟨hrefl j, hhead⟩, hR₂⟩

/-- Segments enter behind the others. -/
theorem Carries.append {js : List Nat} (h : Carries g R P ds) (hR : js.Pairwise R) (hP : ∀ j ∈ js, P j)
    (hcross : ∀ x, P x → ∀ y ∈ js, R x y) : Carries g R P (ds ++ js.map g) := by
  obtain ⟨js₀, rfl, hR₀, hP₀⟩ := h
  refine ⟨js₀ ++ js, List.map_append.symm, ?_, fun j hj => (List.mem_append.mp hj).elim (hP₀ j) (hP j)⟩
  exact List.pairwise_append.mpr ⟨hR₀, hR, fun x hx => hcross x (hP₀ x hx)⟩

/-- The places may be described anew. -/
theorem Carries.imp (h : Carries g R P ds) (hP : ∀ j, P j → P' j ∧ g j = g' j) : Carries g' R P' ds := by
  obtain ⟨js, rfl, hR, hj⟩ := h
  exact ⟨js, List.map_congr_left fun j hm => (hP j (hj j hm)).2, hR, fun j hm => (hP j (hj j hm)).1⟩

/-- The oldest segment leaves; what follows it is related to its place. -/
theorem Carries.head (h : Carries g R P (d :: ds)) :
    ∃ j, g j = d ∧ P j ∧ Carries g R (fun y => P y ∧ R j y) ds := by
  obtain ⟨js, heq, hR, hP⟩ := h
  obtain ⟨j, js', rfl, hj, h'⟩ := List.map_eq_cons_iff.mp heq.symm
  obtain ⟨hhead, hR'⟩ := List.pairwise_cons.mp hR
  obtain ⟨hPj, hP'⟩ := List.forall_mem_cons.mp hP
  exact ⟨j, hj, hPj, js', h'.symm, hR', fun y hy => ⟨hP' y hy, hhead y hy⟩⟩

end

/-- The segments on the way to a receiver that has taken `r` of the `n` sent: no place is a window or more behind one
before it, nor behind the place taken last. -/
def SegmentsInFlight (m : BitVec 17) (w : Nat) (acc : List (List Byte)) (n r : Nat) (ds : List Decoded) : Prop :=
  Carries (segmentOf m acc) (fun x y => x < y + w) (fun y => y < n ∧ r ≤ y + w) ds

/-- The acknowledgments on the way to a sender of which `a` segments are acknowledged, `r` being taken: their counts do
not fall. -/
def AcksInFlight (m : BitVec 17) (a r : Nat) (ds : List Decoded) : Prop :=
  Carries (ackOf m) (fun x y => x ≤ y) (fun k => a ≤ k ∧ k ≤ r) ds

/-! ## The two endpoints' places in the stream -/

/-- A sender that has taken the payloads `acc` and of whose segments `a` are acknowledged. -/
structure SenderAt (k : Block) (acc : List (List Byte)) (a : Nat) : Prop where
  role : k.ses.role = .sender
  /-- What is outstanding is what has been sent and not acknowledged; the FIN is the last segment. -/
  count : a + k.rtx.length = acc.length + k.fin.toNat
  position : (position k).toNat = a % k.ses.m.toNat
  stored : (frames k).map (decodeSeg k.ses) = (List.range' a k.rtx.length).map (segmentOf k.ses.m acc)

/-- A receiver that has taken `r` segments of the stream. -/
structure ReceiverAt (s : State) (acc : List (List Byte)) (r : Nat) : Prop where
  role : s.blk.ses.role = .receiver
  expected : s.blk.expected.toNat = r % s.blk.ses.m.toNat
  sink : sinkBytes s = (acc.take r).flatten
  /-- It listens until it has taken the FIN. -/
  phase : s.blk.st = .listen ∧ r ≤ acc.length ∨ s.blk.st = .closed ∧ acc.length < r ∧ eosMark s = true

/-! ## An event at the sender -/

/-- What a sender sends is at the place behind all it has sent. -/
theorem segmentOf_sent {m : BitVec 17} {acc ps : List (List Byte)} {flag : Byte} {p : List Byte} {fin : Bool}
    (h : flag = flagData ∧ ps = [p] ∧ fin = false ∨ flag = flagFin ∧ p = [] ∧ ps = [] ∧ fin = true) :
    (acc ++ ps).length + fin.toNat = acc.length + 1 ∧
      segmentOf m (acc ++ ps) acc.length = .segment (numberOf m acc.length) flag p := by
  rcases h with ⟨rfl, rfl, rfl⟩ | ⟨rfl, rfl, rfl, rfl⟩
  · exact ⟨by simp, segmentOf_data (by simp)⟩
  · exact ⟨by simp, segmentOf_fin (by simp)⟩

/-- Both directions between a sender and a receiver: the sender's block is `k`, its `a` oldest segments are acknowledged
and the receiver has taken `r`; `ds` are the segments in flight and `gs` the acknowledgments. -/
structure Exchange (k : Block) (acc : List (List Byte)) (a r : Nat) (ds gs : List Decoded) : Prop where
  window : WindowOk k.ses
  sender : SenderAt k acc a
  le_taken : a ≤ r
  le_sent : r ≤ acc.length + k.fin.toNat
  segments : SegmentsInFlight k.ses.m k.ses.w.toNat acc (acc.length + k.fin.toNat) r ds
  acks : AcksInFlight k.ses.m a r gs

section
variable {k k' : Block} {acc ps : List (List Byte)} {a r : Nat} {bufs fs : List Datagram} {ds gs : List Decoded}

/-- Datagrams may be lost on the way. -/
theorem Exchange.lose {ds' gs' : List Decoded} (h : Exchange k acc a r ds gs) (hd : ds'.Sublist ds)
    (hg : gs'.Sublist gs) : Exchange k acc a r ds' gs' :=
  { h with segments := h.segments.sublist hd, acks := h.acks.sublist hg }

/-- Stored frames may be emitted again: their places are those from `a` on. -/
theorem Exchange.resend (h : Exchange k acc a r ds gs) (hlen : k.rtx.length ≤ k.ses.w.toNat) :
    Exchange k acc a r (ds ++ heard k.ses (frames k)) gs := by
  have hcount := h.sender.count
  have htaken := h.le_taken
  have hsent := h.le_sent
  have hpos := h.window.pos
  refine { h with segments := ?_ }
  rw [heard_of_map h.sender.stored]
  refine h.segments.append ((List.pairwise_lt_range' ..).imp fun hlt => by omega) ?_ ?_
  · intro j hj
    obtain ⟨h₁, h₂⟩ := List.mem_range'_1.mp hj
    omega
  · intro x hx y hy
    obtain ⟨h₁, h₂⟩ := List.mem_range'_1.mp hy
    omega

/-- A block that agrees in the session takes the sender's place. -/
theorem Exchange.sameSession (h : Exchange k acc a r ds gs) (hk : SameSession k k') : Exchange k' acc a r ds gs := by
  obtain ⟨hwin, ⟨hrole, hcount, hposition, hstored⟩, htaken, hsent, hseg, hack⟩ := h
  have hq : k'.rtx.length = k.rtx.length := outstanding_length hk.rtx
  refine ⟨hk.ses ▸ hwin, ⟨?_, ?_, ?_, ?_⟩, htaken, ?_, ?_, ?_⟩
  · rw [hk.ses]; exact hrole
  · rw [hq, hk.fin]; exact hcount
  · rw [sameSession_position hk, hk.ses]; exact hposition
  · rw [sameSession_frames hk, hk.ses, hq]; exact hstored
  · rw [hk.fin]; exact hsent
  · rw [hk.ses, hk.fin]; exact hseg
  · rw [hk.ses]; exact hack

/-- A new segment is sent: its place is behind all that have been. -/
theorem Exchange.send {seq : Half} {flag : Byte} {p : List Byte} {f : Datagram} (h : Exchange k acc a r ds gs)
    (hflag : flag = flagData ∧ ps = [p] ∧ k'.fin = false ∨ flag = flagFin ∧ p = [] ∧ ps = [] ∧ k'.fin = true)
    (hfin : k.fin = false) (hses : k'.ses = k.ses) (hpos : position k' = position k)
    (hseq : seq.toNat = ((position k).toNat + k.rtx.length) % k.ses.m.toNat)
    (hf : decodeSeg k.ses f = .segment seq flag p) (hq : frames k' = frames k ++ [f]) :
    Exchange k' (acc ++ ps) a r (ds ++ heard k.ses [f]) gs := by
  obtain ⟨hwin, ⟨hrole, hcount, hposition, hstored⟩, htaken, hsent, hseg, hack⟩ := h
  obtain ⟨hw0, hwm, hm⟩ := hwin
  obtain ⟨hn, hplace⟩ := segmentOf_sent (m := k.ses.m) (acc := acc) hflag
  simp only [hfin, Bool.toNat_false, Nat.add_zero] at hcount hsent hseg
  have hnum : seq = numberOf k.ses.m acc.length := by
    apply BitVec.eq_of_toNat_eq
    rw [numberOf_toNat (by omega) hm, hseq, hposition, Nat.mod_add_mod, hcount]
  have hf' : decodeSeg k.ses f = segmentOf k.ses.m (acc ++ ps) acc.length := by rw [hf, hplace, hnum]
  have hq' : k'.rtx.length = k.rtx.length + 1 := by simpa using congrArg List.length hq
  refine ⟨hses ▸ ⟨hw0, hwm, hm⟩, ⟨?_, ?_, ?_, ?_⟩, htaken, ?_, ?_, ?_⟩
  · rw [hses]; exact hrole
  · omega
  · rw [hpos, hses]; exact hposition
  · rw [hq, hses, hq', List.range'_1_concat, List.map_append, List.map_append, hstored, hcount]
    refine congrArg₂ (· ++ ·) (List.map_congr_left fun j hj => ?_) (by simp [hf'])
    have hlt := (List.mem_range'_1.mp hj).2
    exact (segmentOf_append (by omega)).symm
  · omega
  · have hold : SegmentsInFlight k.ses.m k.ses.w.toNat (acc ++ ps) (acc.length + 1) r ds :=
      hseg.imp fun y hy => ⟨⟨by omega, hy.2⟩, (segmentOf_append hy.1).symm⟩
    rw [hses, hn, heard_of_map (m := k.ses.m) (acc := acc ++ ps) (js := [acc.length]) (by simp [hf'])]
    refine hold.append (List.pairwise_singleton _ _) ?_ ?_
    · intro y hy
      rw [List.mem_singleton.mp hy]
      omega
    · intro x hx y hy
      rw [List.mem_singleton.mp hy]
      omega
  · rw [hses]; exact hack

/-- A new acknowledgment is taken: its number names one of the outstanding segments, so it counts all up to that one. -/
theorem Exchange.acknowledge {v : Half} {p : List Byte} {d : Nat}
    (h : Exchange k acc a r ds (.segment v flagAck p :: gs)) (hlen : k.rtx.length ≤ k.ses.w.toNat)
    (hd : d < k.rtx.length) (hv : (position k).toNat + d ≡ v.toNat [MOD k.ses.m.toNat])
    (hpos : (position k').toNat = (v.toNat + 1) % k.ses.m.toNat) (hses : k'.ses = k.ses) (hfin : k'.fin = k.fin)
    (hq : frames k' = (frames k).drop (d + 1)) : ∃ a', Exchange k' acc a' r ds gs := by
  obtain ⟨hwin, ⟨hrole, hcount, hposition, hstored⟩, htaken, hsent, hseg, hack⟩ := h
  obtain ⟨hw0, hwm, hm⟩ := hwin
  obtain ⟨j, hj, ⟨haj, hjr⟩, hrest⟩ := hack.head
  obtain ⟨rfl, -⟩ : numberOf k.ses.m (j + k.ses.m.toNat - 1) = v ∧ [] = p := by simpa [ackOf] using hj
  have hnum := numberOf_toNat (m := k.ses.m) (by omega) hm (j + k.ses.m.toNat - 1)
  have hcong : j ≡ a + d + 1 [MOD k.ses.m.toNat] := by
    rw [hposition, hnum] at hv
    calc j ≡ j + k.ses.m.toNat [MOD k.ses.m.toNat] := by simp
      _ = j + k.ses.m.toNat - 1 + 1 := by omega
      _ ≡ (j + k.ses.m.toNat - 1) % k.ses.m.toNat + 1 [MOD k.ses.m.toNat] := (Nat.mod_modEq _ _).symm.add_right 1
      _ ≡ a % k.ses.m.toNat + d + 1 [MOD k.ses.m.toNat] := hv.symm.add_right 1
      _ ≡ a + d + 1 [MOD k.ses.m.toNat] := ((Nat.mod_modEq _ _).add_right d).add_right 1
  obtain rfl : j = a + d + 1 := eq_of_mod_eq_of_window hcong (by omega) (by omega) hwm
  have hq' : k'.rtx.length = k.rtx.length - (d + 1) := by simpa using congrArg List.length hq
  refine ⟨a + d + 1, hses ▸ ⟨hw0, hwm, hm⟩, ⟨?_, ?_, ?_, ?_⟩, hjr, ?_, ?_, ?_⟩
  · rw [hses]; exact hrole
  · rw [hfin]; omega
  · rw [hpos, hses, hnum, Nat.mod_add_mod,
      show a + d + 1 + k.ses.m.toNat - 1 + 1 = a + d + 1 + k.ses.m.toNat by omega, Nat.add_mod_right]
  · rw [hq, hses, hq', List.map_drop, hstored, ← List.map_drop, List.drop_range', Nat.mul_one, Nat.add_assoc]
  · rw [hfin]; exact hsent
  · rw [hses, hfin]; exact hseg
  · rw [hses]
    exact hrest.imp fun y hy => ⟨⟨hy.2, hy.1.2⟩, rfl⟩

/-- An event at the sender: what it handles leaves the acknowledgments, and what it emits joins the segments. -/
theorem senderEffect_keeps (h : Exchange k acc a r ds (heard k.ses bufs ++ gs))
    (hlen : k.rtx.length ≤ k.ses.w.toNat) (he : SenderEffect k bufs k' ps fs) :
    k'.ses = k.ses ∧ (ps ≠ [] → k.fin = false) ∧ ∃ a', Exchange k' (acc ++ ps) a' r (ds ++ heard k.ses fs) gs := by
  have hgs : Exchange k acc a r ds gs := h.lose (List.Sublist.refl _) (List.sublist_append_right _ _)
  cases he with
  | kept hps hk hfs =>
    subst hps
    rw [List.append_nil]
    exact ⟨hk.ses, fun hne => absurd rfl hne, a,
      ((hgs.resend hlen).lose ((heard_sublist hfs).append_left ds) (List.Sublist.refl _)).sameSession hk⟩
  | sent seq flag p f hflag hfin hses hpos hseq hf hq hfs =>
    exact ⟨hses, fun _ => hfin, a, hfs ▸ hgs.send hflag hfin hses hpos hseq hf hq⟩
  | acked v p d buf hbuf hdec hd hv hpos hps hses hfin hq hfs =>
    subst hbuf hps hfs
    rw [heard_of_segment hdec] at h
    rw [List.append_nil, heard_nil, List.append_nil]
    exact ⟨hses, fun hne => absurd rfl hne, h.acknowledge hlen hd hv hpos hses hfin hq⟩

/-! ## An event at the receiver -/

theorem sinkBytes_append {s t : State} {es : List Effect} (h : t.env.out = s.env.out ++ es) :
    sinkBytes t = sinkBytes s ++ es.flatMap Effect.delivered := by
  simp [sinkBytes, h]

theorem eosMark_append {s t : State} {es : List Effect} (h : t.env.out = s.env.out ++ es) :
    eosMark t = (eosMark s || decide (Effect.signalEos ∈ es)) := by
  simp [eosMark, h]

/-- The acknowledgment of all that has been taken joins the others. -/
theorem Exchange.answer (h : Exchange k acc a r ds gs) : Exchange k acc a r ds (gs ++ [ackOf k.ses.m r]) := by
  refine { h with acks := h.acks.append (js := [r]) (List.pairwise_singleton _ _) ?_ ?_ }
  · simpa using h.le_taken
  · intro x hx y hy
    rw [List.mem_singleton.mp hy]
    exact hx.2

/-- A segment whose number is the expected one is the one at place `r`, and is taken. -/
theorem Exchange.take {v : Half} {flag : Byte} {p : List Byte} (h : Exchange k acc a r (.segment v flag p :: ds) gs)
    (hlen : k.rtx.length ≤ k.ses.w.toNat) (hv : v.toNat = r % k.ses.m.toNat) :
    segmentOf k.ses.m acc r = .segment v flag p ∧ Exchange k acc a (r + 1) ds gs := by
  obtain ⟨hwin, hsender, htaken, hsent, hseg, hack⟩ := h
  have hcount := hsender.count
  obtain ⟨j, hj, ⟨hjn, hrj⟩, hrest⟩ := hseg.head
  obtain ⟨hvj, -, -⟩ := segmentOf_inv hj
  rw [hvj, numberOf_toNat (Nat.zero_lt_of_lt hwin.lt) hwin.le] at hv
  obtain rfl : j = r := eq_of_mod_eq_of_window hv (by omega) (by omega) hwin.lt
  refine ⟨hj, hwin, hsender, by omega, hjn, hrest.imp fun y hy => ⟨⟨hy.1.1, hy.2⟩, rfl⟩, ?_⟩
  exact hack.imp fun y hy => ⟨⟨hy.1, by omega⟩, rfl⟩

theorem isAck_ackOf {c : Ses} (hwin : WindowOk c) {n b : Nat} {f : Datagram} (h : IsAck c b f)
    (hb : b = (n + c.m.toNat - 1) % c.m.toNat) : heard c [f] = [ackOf c.m n] := by
  obtain ⟨v, hv, hdec⟩ := h
  rw [heard_of_segment hdec, ackOf]
  have hnum : v = numberOf c.m (n + c.m.toNat - 1) := by
    apply BitVec.eq_of_toNat_eq
    rw [hv, hb, numberOf_toNat (Nat.zero_lt_of_lt hwin.lt) hwin.le]
  rw [hnum]

/-- A receiver that takes the segment at place `r` is one segment further in the stream. -/
theorem receiverAt_take {s t : State} {v : Half} {flag : Byte} {p : List Byte} {f : Datagram} {es : List Effect}
    (hs : ReceiverAt s acc r) (hst : s.blk.st = .listen) (hses : t.blk.ses = s.blk.ses)
    (hexp : t.blk.expected.toNat = (s.blk.expected.toNat + 1) % s.blk.ses.m.toNat)
    (hseg : segmentOf s.blk.ses.m acc r = .segment v flag p)
    (hes : flag = flagData ∧ t.blk.st = .listen ∧ es = [.deliver p, .emit f] ∨
      flag = flagFin ∧ t.blk.st = .closed ∧ es = [.signalEos, .emit f])
    (hout : t.env.out = s.env.out ++ es) : ReceiverAt t acc (r + 1) := by
  obtain ⟨hrole, hexpected, hsink, hphase⟩ := hs
  obtain ⟨-, hdata, hfin⟩ := segmentOf_inv hseg
  have hle : r ≤ acc.length := by
    rcases hphase with ⟨-, hle⟩ | ⟨hc, -⟩
    · exact hle
    · rw [hst] at hc; cases hc
  have hexp' : t.blk.expected.toNat = (r + 1) % t.blk.ses.m.toNat := by
    rw [hexp, hexpected, hses, Nat.mod_add_mod]
  rcases hes with ⟨hflag, hst', hes⟩ | ⟨hflag, hst', hes⟩ <;> subst hes
  · have hp := hdata hflag
    have hlt : r < acc.length := (List.getElem?_eq_some_iff.mp hp).1
    refine ⟨hses ▸ hrole, hexp', ?_, .inl ⟨hst', hlt⟩⟩
    rw [sinkBytes_append hout, hsink, List.take_add_one, hp]
    simp [Effect.delivered]
  · have hge := hfin hflag
    refine ⟨hses ▸ hrole, hexp', ?_, .inr ⟨hst', by omega, by simp [eosMark_append hout]⟩⟩
    rw [sinkBytes_append hout, hsink, List.take_of_length_le hge, List.take_of_length_le (by omega)]
    simp [Effect.delivered]

/-- A receiver that agrees in the session and has only emitted stands where it stood. -/
theorem receiverAt_kept {s t : State} {es : List Effect} (hs : ReceiverAt s acc r) (hk : SameSession s.blk t.blk)
    (hout : t.env.out = s.env.out ++ es) (hes : es.flatMap Effect.delivered = []) : ReceiverAt t acc r := by
  obtain ⟨hrole, hexpected, hsink, hphase⟩ := hs
  refine ⟨hk.ses ▸ hrole, by rw [hk.expected, hk.ses]; exact hexpected,
    by rw [sinkBytes_append hout, hes, List.append_nil, hsink], ?_⟩
  rw [hk.st, eosMark_append hout]
  exact hphase.imp_right fun ⟨hc, hlt, he⟩ => ⟨hc, hlt, by simp [he]⟩

/-- An event at the receiver: what it handles leaves the segments, and what it emits joins the acknowledgments. -/
theorem receiverEffect_keeps {s t : State} {es : List Effect} (hs : ReceiverAt s acc r)
    (hsame : SameFraming k.ses s.blk.ses) (h : Exchange k acc a r (heard k.ses bufs ++ ds) gs)
    (hlen : k.rtx.length ≤ k.ses.w.toNat) (he : ReceiverEffect s.blk bufs t.blk es)
    (hout : t.env.out = s.env.out ++ es) :
    t.blk.ses = s.blk.ses ∧ ∃ r', ReceiverAt t acc r' ∧
      Exchange k acc a r' ds (gs ++ heard k.ses (es.flatMap Effect.emitted)) := by
  have hds : Exchange k acc a r ds gs := h.lose (List.sublist_append_right _ _) (List.Sublist.refl _)
  have hwin := h.window
  have h0 : 0 < k.ses.m.toNat := Nat.zero_lt_of_lt hwin.lt
  have hexp := hs.expected
  have hack {n b : Nat} {f : Datagram} (hf : IsAck s.blk.ses b f) (hb : b = (n + k.ses.m.toNat - 1) % k.ses.m.toNat) :
      heard k.ses [f] = [ackOf k.ses.m n] := by
    refine isAck_ackOf hwin ?_ hb
    rw [IsAck, decodeSeg_congr hsame]
    exact hf
  rw [← hsame.m] at hexp
  cases he with
  | kept hk hes =>
    subst hes
    exact ⟨hk.ses, r, receiverAt_kept hs hk hout rfl, by simpa using hds⟩
  | answered f hk hf hes =>
    subst hes
    refine ⟨hk.ses, r, receiverAt_kept hs hk hout rfl, ?_⟩
    have hb : (s.blk.expected.toNat + s.blk.ses.m.toNat - 1) % s.blk.ses.m.toNat =
        (r + k.ses.m.toNat - 1) % k.ses.m.toNat := by
      rw [← hsame.m, hexp, Nat.add_sub_assoc h0, Nat.add_sub_assoc h0, Nat.mod_add_mod]
    show Exchange k acc a r ds (gs ++ heard k.ses [f])
    rw [hack hf hb]
    exact hds.answer
  | accepted buf f flag p hbuf hst hdec hses hexp' hf hes =>
    subst hbuf
    rw [← decodeSeg_congr hsame] at hdec
    rw [heard_of_segment hdec] at h
    obtain ⟨hplace, htake⟩ := h.take hlen hexp
    have hemit : es.flatMap Effect.emitted = [f] := by rcases hes with ⟨-, -, rfl⟩ | ⟨-, -, rfl⟩ <;> rfl
    refine ⟨hses, r + 1, receiverAt_take hs hst hses hexp' (hsame.m ▸ hplace) hes hout, ?_⟩
    have hb : s.blk.expected.toNat = (r + 1 + k.ses.m.toNat - 1) % k.ses.m.toNat := by
      rw [hexp, show r + 1 + k.ses.m.toNat - 1 = r + k.ses.m.toNat by omega, Nat.add_mod_right]
    rw [hemit, hack hf hb]
    exact htake.answer

end

end Sys2Proof.Proofs
end

section
/-! # Exactly-once delivery (O59, O60)

The invariant of a link (`Delivering`): each endpoint stands at a place in the one stream of segments, and what is in
flight, at `ch_in` or in the channel, stands for places that fit both. Every quiet move keeps it, in both
disciplines. -/

namespace Sys2Proof.Proofs

open Sys2Proof Sys2Proof.Machine Sys2Proof.Safety

/-! ## The channel (20_memory R72, R73) -/

/-- What the adapter puts in flight is what is sent, without what it swallows. -/
theorem sendAll_flight (fs : List Datagram) (c : Channel) :
    ∃ gs, gs.Sublist fs ∧ (Channel.sendAll fs c).flight = c.flight ++ gs := by
  induction fs generalizing c with
  | nil => exact ⟨[], .refl _, (List.append_nil _).symm⟩
  | cons f rest ih =>
    obtain ⟨gs, hgs, hflight⟩ := ih (Channel.send f c)
    have hsend : (Channel.send f c).flight = c.flight ∨ (Channel.send f c).flight = c.flight ++ [f] := by
      unfold Channel.send
      split
      · exact .inr rfl
      · exact .inl rfl
      · exact .inr rfl
    rcases hsend with hs | hs
    · exact ⟨gs, hgs.cons f, by rw [Channel.sendAll, hflight, hs]⟩
    · exact ⟨f :: gs, hgs.cons_cons f, by rw [Channel.sendAll, hflight, hs, List.append_assoc]; rfl⟩

/-- What a step has emitted are the datagrams among the effects it has added. -/
theorem newlyEmitted_of_out {s t : State} {es : List Effect} (h : t.env.out = s.env.out ++ es) :
    newlyEmitted s t = es.flatMap Effect.emitted := by
  simp [newlyEmitted, chOut, h]

theorem flatMap_emitted (fs : List Datagram) : (fs.map Effect.emit).flatMap Effect.emitted = fs := by
  simp [List.flatMap_map, Effect.emitted]

/-! ## The invariant of a link -/

/-- A link whose sender has `a` segments acknowledged and whose receiver has taken `r`. -/
structure Delivering (l : Link) (a r : Nat) : Prop where
  sndInv : Inv l.snd
  rcvInv : Inv l.rcv
  sndQuiet : QuietEnv l.snd.env
  rcvQuiet : QuietEnv l.rcv.env
  framing : SameFraming l.snd.blk.ses l.rcv.blk.ses
  receiver : ReceiverAt l.rcv l.accepted r
  exchange : Exchange l.snd.blk l.accepted a r (heard l.snd.blk.ses (l.rcv.env.chIn ++ l.fwd.flight))
    (heard l.snd.blk.ses (l.snd.env.chIn ++ l.ret.flight))

/-- The window bounds what the sender of a link has outstanding. -/
theorem Delivering.rtx_le {l : Link} {a r : Nat} (h : Delivering l a r) :
    l.snd.blk.rtx.length ≤ l.snd.blk.ses.w.toNat :=
  rtx_length_le_window h.sndInv.block h.exchange.sender.role

/-- The receiver stands where it stood when the source gives more. -/
theorem receiverAt_grow {s : State} {acc ps : List (List Byte)} {r : Nat} (h : ReceiverAt s acc r)
    (hle : ps ≠ [] → r ≤ acc.length) : ReceiverAt s (acc ++ ps) r := by
  by_cases hps : ps = []
  · rwa [hps, List.append_nil]
  obtain ⟨hrole, hexp, hsink, hphase⟩ := h
  have hr := hle hps
  refine ⟨hrole, hexp, by rw [hsink, List.take_append_of_le_length hr], .inl ?_⟩
  rcases hphase with ⟨hst, -⟩ | ⟨-, hlt, -⟩
  · exact ⟨hst, hr.trans (by simp)⟩
  · omega

/-- A step of the sending endpoint. -/
theorem Delivering.stepSnd {l l' : Link} {a r : Nat} (h : Delivering l a r) (e : l.stepSnd = some l') :
    ∃ a', Delivering l' a' r := by
  unfold Link.stepSnd at e
  split at e
  next t ht =>
    cases e
    have hx := h.exchange
    obtain ⟨hstep, hquiet⟩ := quiet_step h.sndQuiet ht
    obtain ⟨bufs, fs, heff, hout, hch⟩ := sender_step h.sndInv.block hx.sender.role hstep
    rw [hch, List.append_assoc, heard_append _ bufs] at hx
    obtain ⟨hses, hps, a', hx'⟩ := senderEffect_keeps hx h.rtx_le heff
    rw [newlyEmitted_of_out hout, flatMap_emitted]
    obtain ⟨gs, hgs, hflight⟩ := sendAll_flight fs l.fwd
    have hgrow : acceptedNext l.snd ≠ [] → r ≤ l.accepted.length := fun hne => by
      simpa [hps hne] using hx.le_sent
    refine ⟨a', stepKeepsInvariant _ _ h.sndInv ht, h.rcvInv, hquiet, h.rcvQuiet, hses ▸ h.framing,
      receiverAt_grow h.receiver hgrow, ?_⟩
    show Exchange t.blk _ a' r (heard t.blk.ses (l.rcv.env.chIn ++ (Channel.sendAll fs l.fwd).flight)) _
    rw [hflight, hses, ← List.append_assoc, heard_append _ _ gs]
    exact hx'.lose ((heard_sublist hgs).append_left _) (.refl _)
  all_goals cases e

/-- A step of the receiving endpoint. -/
theorem Delivering.stepRcv {l l' : Link} {a r : Nat} (h : Delivering l a r) (e : l.stepRcv = some l') :
    ∃ r', Delivering l' a r' := by
  unfold Link.stepRcv at e
  split at e
  next t ht =>
    cases e
    have hx := h.exchange
    obtain ⟨hstep, hquiet⟩ := quiet_step h.rcvQuiet ht
    obtain ⟨bufs, es, heff, hout, hch⟩ := receiver_step h.rcvInv.block h.receiver.role hstep
    rw [hch, List.append_assoc, heard_append _ bufs] at hx
    obtain ⟨hses, r', hreceiver, hx'⟩ := receiverEffect_keeps h.receiver h.framing hx h.rtx_le heff hout
    rw [newlyEmitted_of_out hout]
    obtain ⟨gs, hgs, hflight⟩ := sendAll_flight (es.flatMap Effect.emitted) l.ret
    refine ⟨r', h.sndInv, stepKeepsInvariant _ _ h.rcvInv ht, h.sndQuiet, hquiet, hses ▸ h.framing, hreceiver, ?_⟩
    show Exchange l.snd.blk _ a r' _
      (heard l.snd.blk.ses (l.snd.env.chIn ++ (Channel.sendAll (es.flatMap Effect.emitted) l.ret).flight))
    rw [hflight, ← List.append_assoc, heard_append _ _ gs]
    exact hx'.lose (.refl _) ((heard_sublist hgs).append_left _)
  all_goals cases e

/-! ## Moves of the environment -/

theorem quietEnv_offer {m : Moment} {s : State} (h : QuietEnv s.env) (hm : QuietMoment m) :
    QuietEnv (offerMoment m s).env := by
  refine ⟨fun x hx => ?_, h.cmds⟩
  rcases List.mem_append.mp hx with hx | hx
  · exact h.agenda x hx
  · rw [List.mem_singleton.mp hx]; exact hm

theorem inv_offer {m : Moment} {s : State} (hi : Inv s) (h : QuietEnv s.env) (hm : QuietMoment m) :
    Inv (offerMoment m s) :=
  ⟨hi.block, quietEnv_noIssue (quietEnv_offer h hm)⟩

theorem inv_arrive {s : State} (buf : Datagram) (h : Inv s) : Inv (arriveAt buf s) := ⟨h.block, h.ports⟩

theorem quietEnv_arrive {s : State} (buf : Datagram) (h : QuietEnv s.env) : QuietEnv (arriveAt buf s).env :=
  ⟨h.agenda, h.cmds⟩

/-- A second delivery of a datagram in flight comes right before the first. -/
theorem Carries.arrive {g : Nat → Decoded} {R : Nat → Nat → Prop} {P : Nat → Prop} {c : Ses}
    {inbox rest : List Datagram} {f : Datagram} (hrefl : ∀ j, R j j)
    (h : Carries g R P (heard c (inbox ++ f :: rest))) : Carries g R P (heard c ((inbox ++ [f]) ++ f :: rest)) := by
  have hcons : heard c (f :: rest) = heard c [f] ++ heard c rest := heard_append c [f] rest
  simp only [heard_append, hcons] at h ⊢
  rcases heard_singleton c f with hf | ⟨d, hf⟩ <;> rw [hf] at h ⊢
  · simpa using h
  · simpa using h.duplicate hrefl

/-- A rejected copy changes nothing in what is heard. -/
theorem heard_arrive_corrupt {c : Ses} {buf : Datagram} (inbox flight : List Datagram)
    (h : (decodeSeg c buf).isCorrupt = true) :
    heard c ((inbox ++ [buf]) ++ flight) = heard c (inbox ++ flight) := by
  rw [heard_append, heard_append, heard_of_corrupt h, List.append_nil, heard_append]

/-- The oldest datagram in flight leaves. -/
theorem heard_drop_sublist (c : Ses) (inbox flight : List Datagram) :
    (heard c (inbox ++ flight.tail)).Sublist (heard c (inbox ++ flight)) :=
  heard_sublist ((List.tail_sublist _).append_left _)

/-- The oldest datagram in flight is delivered, and stays in flight. -/
theorem Delivering.deliver {l : Link} {a r : Nat} {d : Dir} {f : Datagram} {rest : List Datagram}
    (h : Delivering l a r) (hf : l.inFlight d = f :: rest) : Delivering (l.arrive d f) a r := by
  have hx := h.exchange
  cases d with
  | fwd =>
    have hf : l.fwd.flight = f :: rest := hf
    have hseg := hx.segments
    have hpos := hx.window.pos
    rw [hf] at hseg
    refine { h with
      rcvInv := inv_arrive f h.rcvInv
      rcvQuiet := quietEnv_arrive f h.rcvQuiet
      receiver := ⟨h.receiver.role, h.receiver.expected, h.receiver.sink, h.receiver.phase⟩
      exchange := { hx with segments := ?_ } }
    have harrive := hseg.arrive (fun j => by omega)
    rwa [← hf] at harrive
  | ret =>
    have hf : l.ret.flight = f :: rest := hf
    have hack := hx.acks
    rw [hf] at hack
    refine { h with
      sndInv := inv_arrive f h.sndInv
      sndQuiet := quietEnv_arrive f h.sndQuiet
      exchange := { hx with acks := ?_ } }
    have harrive := hack.arrive (fun j => le_refl j)
    rwa [← hf] at harrive

/-- An altered copy that DECODE rejects is delivered (20_memory R75). -/
theorem Delivering.alter {l : Link} {a r : Nat} {d : Dir} {buf : Datagram} (h : Delivering l a r)
    (hq : QuietMove l (.alter d buf)) : Delivering (l.arrive d buf) a r := by
  have hx := h.exchange
  cases d with
  | fwd =>
    have hbuf : (decodeSeg l.snd.blk.ses buf).isCorrupt = true := decodeSeg_congr h.framing ▸ hq
    exact { h with
      rcvInv := inv_arrive buf h.rcvInv
      rcvQuiet := quietEnv_arrive buf h.rcvQuiet
      receiver := ⟨h.receiver.role, h.receiver.expected, h.receiver.sink, h.receiver.phase⟩
      exchange := (heard_arrive_corrupt l.rcv.env.chIn l.fwd.flight hbuf).symm ▸ hx }
  | ret =>
    exact { h with
      sndInv := inv_arrive buf h.sndInv
      sndQuiet := quietEnv_arrive buf h.sndQuiet
      exchange := (heard_arrive_corrupt l.snd.env.chIn l.ret.flight hq).symm ▸ hx }

/-- The oldest datagram in flight is lost. -/
theorem Delivering.drop {l : Link} {a r : Nat} (d : Dir) (h : Delivering l a r) : Delivering (l.dropOldest d) a r := by
  cases d with
  | fwd => exact { h with exchange := h.exchange.lose (heard_drop_sublist ..) (.refl _) }
  | ret => exact { h with exchange := h.exchange.lose (.refl _) (heard_drop_sublist ..) }

/-! ## A run -/

/-- Every quiet move keeps the invariant of a link. -/
theorem Delivering.move {l l' : Link} {a r : Nat} {mv : LinkMove} (h : Delivering l a r) (hq : QuietMove l mv)
    (e : l.move mv = some l') : ∃ a' r', Delivering l' a' r' := by
  cases mv with
  | stepSnd =>
    obtain ⟨a', h'⟩ := h.stepSnd e
    exact ⟨a', r, h'⟩
  | stepRcv =>
    obtain ⟨r', h'⟩ := h.stepRcv e
    exact ⟨a, r', h'⟩
  | offerSnd m =>
    cases e
    exact ⟨a, r, { h with sndInv := inv_offer h.sndInv h.sndQuiet hq, sndQuiet := quietEnv_offer h.sndQuiet hq }⟩
  | offerRcv m =>
    cases e
    exact ⟨a, r, { h with
      rcvInv := inv_offer h.rcvInv h.rcvQuiet hq
      rcvQuiet := quietEnv_offer h.rcvQuiet hq
      receiver := ⟨h.receiver.role, h.receiver.expected, h.receiver.sink, h.receiver.phase⟩ }⟩
  | deliver d =>
    simp only [Link.move] at e
    split at e
    · cases e
    next f rest hf => cases e; exact ⟨a, r, h.deliver hf⟩
  | alter d buf =>
    simp only [Link.move] at e
    split at e
    · cases e
    · cases e; exact ⟨a, r, h.alter hq⟩
  | drop d =>
    simp only [Link.move] at e
    split at e
    · cases e
    · cases e; exact ⟨a, r, h.drop d⟩

/-- Two endpoints just opened stand at the beginning of an empty stream. -/
theorem begins_delivering {l : Link} (h : Begins l) : Delivering l 0 0 := by
  obtain ⟨⟨ks, hs, hslegal, hsrole⟩, ⟨kr, hr, hrlegal, hrrole⟩, ⟨-, halg, hmss, hm⟩, ⟨hsenv, hrenv⟩,
    hfwd, hret, hacc⟩ := h
  have hquiet : QuietEnv quietEnv := ⟨by simp [quietEnv], by simp [quietEnv]⟩
  have hsq : QuietEnv l.snd.env := hsenv ▸ hquiet
  have hrq : QuietEnv l.rcv.env := hrenv ▸ hquiet
  have hsblk : BlockInv l.snd.hw l.snd.blk := hs ▸ openedBlock_inv hslegal
  have hrblk : BlockInv l.rcv.hw l.rcv.blk := hr ▸ openedBlock_inv hrlegal
  have hwin : WindowOk l.snd.blk.ses := by
    rw [hs]
    exact sesLegal_windowOk (latch_legal hslegal)
  have hsend : SenderAt l.snd.blk l.accepted 0 := by
    rw [hs, hacc]
    refine ⟨hsrole, rfl, ?_, rfl⟩
    cases hmode : ks.cfg.mode <;> simp [position, openedBlock, latch, hmode, seqOfBit]
  refine ⟨⟨hsblk, quietEnv_noIssue hsq⟩, ⟨hrblk, quietEnv_noIssue hrq⟩, hsq, hrq, ⟨halg, hmss, hm⟩, ?_,
    hwin, hsend, le_refl 0, Nat.zero_le _, ?_, ?_⟩
  · refine ⟨by rw [hr]; exact hrrole, by rw [hr]; exact (Nat.zero_mod _).symm,
      by simp [sinkBytes, hrenv, quietEnv], .inl ⟨?_, Nat.zero_le _⟩⟩
    rw [hr]
    simp [openedBlock, hrrole, openState]
  · rw [hrenv, hfwd]
    exact carries_nil
  · rw [hsenv, hret]
    exact carries_nil

/-- The invariant of a link holds along every quiet run. -/
theorem quietReach_delivering {l l' : Link} (h : Begins l) (hr : QuietReach l l') : ∃ a r, Delivering l' a r := by
  induction hr with
  | start => exact ⟨0, 0, begins_delivering h⟩
  | move mv _ hq e ih =>
    obtain ⟨a, r, hd⟩ := ih
    exact hd.move hq e

/-- What the sink has is the payloads taken, a first part of those accepted. -/
theorem Delivering.sink {l : Link} {a r : Nat} (h : Delivering l a r) : sinkBytes l.rcv <+: l.accepted.flatten := by
  refine ⟨(l.accepted.drop r).flatten, ?_⟩
  rw [h.receiver.sink, ← List.flatten_append, List.take_append_drop]

/-- Where the sender is DONE every segment and the FIN have been taken. -/
theorem Delivering.done {l : Link} {a r : Nat} (h : Delivering l a r) (hst : l.snd.blk.st = .done) :
    sinkBytes l.rcv = l.accepted.flatten ∧ eosMark l.rcv = true := by
  have hblk := h.sndInv.block
  have hcount := h.exchange.sender.count
  have htaken := h.exchange.le_taken
  rw [hblk.quiet (by simp [hst]) (by simp [hst]), hblk.done hst] at hcount
  simp only [List.length_nil, Nat.add_zero, Bool.toNat_true] at hcount
  obtain ⟨-, hle⟩ | ⟨-, -, heos⟩ := h.receiver.phase
  · omega
  · exact ⟨by rw [h.receiver.sink, List.take_of_length_le (by omega)], heos⟩

/-- Exactly-once delivery, in either discipline. -/
theorem quietReach_delivers {l l' : Link} (h : Begins l) (hr : QuietReach l l') :
    sinkBytes l'.rcv <+: l'.accepted.flatten ∧
      (l'.snd.blk.st = .done → sinkBytes l'.rcv = l'.accepted.flatten ∧ eosMark l'.rcv = true) := by
  obtain ⟨a, r, hd⟩ := quietReach_delivering h hr
  exact ⟨hd.sink, hd.done⟩

/-- Settles O59: stop-and-wait is the case of a window of one and two numbers. -/
theorem stopAndWaitDelivers : Obligations.StopAndWaitDelivers := by
  unfold Obligations.StopAndWaitDelivers
  exact fun l l' h _ hr => quietReach_delivers h hr

/-- Settles O60, for every window below the modulus. -/
theorem goBackNDelivers : Obligations.GoBackNDelivers := by
  unfold Obligations.GoBackNDelivers
  exact fun l l' h _ hr => quietReach_delivers h hr

end Sys2Proof.Proofs
end

section
/-! # The rows of a dispatch word

Every row a dispatch word lists stands for that word (`dwRows_standFor`), and in a state at most one of them has its
condition (`dwRows_exclusive`). -/

namespace Sys2Proof.Proofs

open Sys2Proof Sys2Proof.Machine Sys2Proof.Safety

/-! ## The rows of a word, by its event (30_encoding R103) -/

section
variable (r m : BitVec 1) (c : BitVec 3) (ops : List Byte)

theorem dwRows_reserved : dwRows (dwByte r m 0 c) ops = [] := by
  simp [dwRows]

theorem dwRows_open : dwRows (dwByte r m 1 c) ops =
    if c = 0 ∧ ops = [] then [.evOpen r m, .evOpenBadcfg r m, .evOpenBadstate r m] else [] := by
  simp [dwRows]

theorem dwRows_push : dwRows (dwByte r m 2 c) ops =
    if c = 0 then
      (if r = 0 then (if m = 0 then [.swsPush ops] else [.gbsPush ops]) else []) ++ [.txRefuse r m .push ops]
    else [] := by
  simp [dwRows]

theorem dwRows_close : dwRows (dwByte r m 3 c) ops =
    if c = 0 ∧ ops = [] then
      (if r = 0 then (if m = 0 then [.swsClose] else [.gbsClose]) else []) ++ [.txRefuse r m .close []]
    else [] := by
  simp [dwRows]

theorem dwRows_abort (cause : Byte) : dwRows (dwByte r m 4 c) [cause] =
    if c = 0 then [.evAbort r m cause, .evAbortBadstate r m cause] else [] := by
  simp [dwRows]

theorem dwRows_abort_operand (h : ops.length ≠ 1) : dwRows (dwByte r m 4 c) ops = [] := by
  match ops, h with
  | [], _ => simp [dwRows]
  | [x], h => exact absurd rfl h
  | x :: y :: rest, _ => simp [dwRows]

theorem dwRows_timeout : dwRows (dwByte r m 6 c) ops =
    if c = 0 ∧ ops = [] ∧ r = 0 then (if m = 0 then [.swsTimeout] else [.gbsTimeout]) else [] := by
  simp [dwRows]

theorem dwRows_tick : dwRows (dwByte r m 7 c) ops = if c = 0 ∧ ops = [] then [.evTick r m] else [] := by
  simp [dwRows]

end

/-- The event codes a dispatch word can carry; 0 is the one the table does not use. -/
theorem event_cases (e : BitVec 3) : e = 0 ∨ e = 1 ∨ e = 2 ∨ e = 3 ∨ e = 4 ∨ e = 5 ∨ e = 6 ∨ e = 7 := by
  revert e; decide

theorem bit_one {b : BitVec 1} (h : ¬ b = 0) : b = 1 := by
  revert b; decide

/-! ## The rows of a word stand for it -/

/-- A well-formed operation whose word is this one. -/
def StandsFor (f : Format) (bs : List Byte) (i : Instr) : Prop := i.wellFormed = true ∧ encode i = (f, bs)

/-- A class that occurs and is none of a segment's is that of CorruptFrame. -/
theorem legalClass_corrupt {c : BitVec 3} (h : legalClass c = true) (h0 : ¬ c = 0) (h1 : ¬ c = 1) (h2 : ¬ c = 2) :
    c = 7 := by
  rcases of_decide_eq_true h with h | h | h | h
  · exact absurd h h0
  · exact absurd h h1
  · exact absurd h h2
  · exact h

/-- Every row an `RX_FRAME` word lists stands for that word. -/
theorem rxRows_standFor (r m : BitVec 1) (c : BitVec 3) (buf : List Byte) :
    ∀ i ∈ rxRows r m c buf, StandsFor .dw (dwByte r m 5 c :: buf) i := by
  rw [← List.forall_iff_forall_mem]
  unfold rxRows
  split_ifs
  next hc hr hm h1 => subst hr hm h1; exact ⟨⟨rfl, rfl⟩, ⟨hc, rfl⟩, ⟨hc, rfl⟩, ⟨hc, rfl⟩⟩
  next hc hr hm h1 => subst hr hm; exact ⟨⟨hc, rfl⟩, ⟨hc, rfl⟩, ⟨hc, rfl⟩⟩
  next hc hr hm h1 => subst hr h1; rw [bit_one hm]; exact ⟨⟨rfl, rfl⟩, ⟨rfl, rfl⟩, ⟨hc, rfl⟩⟩
  next hc hr hm h1 =>
    subst hr; rw [bit_one hm]
    exact ⟨⟨Bool.and_eq_true_iff.mpr ⟨hc, decide_eq_true h1⟩, rfl⟩, ⟨hc, rfl⟩⟩
  next hc hr hm h0 =>
    subst hm h0; rw [bit_one hr]; exact ⟨⟨rfl, rfl⟩, ⟨rfl, rfl⟩, ⟨rfl, rfl⟩, ⟨hc, rfl⟩⟩
  next hc hr hm h0 h1 => subst hm h1; rw [bit_one hr]; exact ⟨⟨rfl, rfl⟩, ⟨hc, rfl⟩⟩
  next hc hr hm h0 h1 h2 =>
    subst hm h2; rw [bit_one hr]; exact ⟨⟨rfl, rfl⟩, ⟨rfl, rfl⟩, ⟨rfl, rfl⟩, ⟨hc, rfl⟩⟩
  next hc hr hm h0 h1 h2 =>
    subst hm; obtain rfl := legalClass_corrupt hc h0 h1 h2; rw [bit_one hr]; exact ⟨⟨rfl, rfl⟩, ⟨hc, rfl⟩⟩
  next hc hr hm h0 =>
    subst h0; rw [bit_one hr, bit_one hm]; exact ⟨⟨rfl, rfl⟩, ⟨rfl, rfl⟩, ⟨rfl, rfl⟩, ⟨hc, rfl⟩⟩
  next hc hr hm h0 h1 => subst h1; rw [bit_one hr, bit_one hm]; exact ⟨⟨rfl, rfl⟩, ⟨hc, rfl⟩⟩
  next hc hr hm h0 h1 h2 =>
    subst h2; rw [bit_one hr, bit_one hm]; exact ⟨⟨rfl, rfl⟩, ⟨rfl, rfl⟩, ⟨rfl, rfl⟩, ⟨hc, rfl⟩⟩
  next hc hr hm h0 h1 h2 =>
    obtain rfl := legalClass_corrupt hc h0 h1 h2; rw [bit_one hr, bit_one hm]; exact ⟨⟨rfl, rfl⟩, ⟨hc, rfl⟩⟩
  next => trivial

/-- Every row a dispatch word lists stands for that word. -/
theorem dwRows_standFor (w : Byte) (ops : List Byte) : ∀ i ∈ dwRows w ops, StandsFor .dw (w :: ops) i := by
  rw [← dwByte_fields w]
  generalize dwRole w = r, dwMode w = m, dwEv w = e, dwCls w = c
  rw [← List.forall_iff_forall_mem]
  rcases event_cases e with rfl | rfl | rfl | rfl | rfl | rfl | rfl | rfl
  · rw [dwRows_reserved]; trivial
  · rw [dwRows_open]
    split
    next h => obtain ⟨rfl, rfl⟩ := h; exact ⟨⟨rfl, rfl⟩, ⟨rfl, rfl⟩, ⟨rfl, rfl⟩⟩
    next => trivial
  · rw [dwRows_push]
    split_ifs
    next hc hr hm => subst hc hr hm; exact ⟨⟨rfl, rfl⟩, ⟨rfl, rfl⟩⟩
    next hc hr hm => subst hc hr; rw [bit_one hm]; exact ⟨⟨rfl, rfl⟩, ⟨rfl, rfl⟩⟩
    next hc hr => subst hc; exact ⟨rfl, rfl⟩
    next => trivial
  · rw [dwRows_close]
    split_ifs
    next h hr hm => obtain ⟨rfl, rfl⟩ := h; subst hr hm; exact ⟨⟨rfl, rfl⟩, ⟨rfl, rfl⟩⟩
    next h hr hm => obtain ⟨rfl, rfl⟩ := h; subst hr; rw [bit_one hm]; exact ⟨⟨rfl, rfl⟩, ⟨rfl, rfl⟩⟩
    next h hr => obtain ⟨rfl, rfl⟩ := h; exact ⟨rfl, rfl⟩
    next => trivial
  · by_cases hops : ops.length = 1
    · obtain ⟨cause, rfl⟩ := List.length_eq_one_iff.mp hops
      rw [dwRows_abort]
      split
      next h => subst h; exact ⟨⟨rfl, rfl⟩, ⟨rfl, rfl⟩⟩
      next => trivial
    · rw [dwRows_abort_operand _ _ _ _ hops]; trivial
  · rw [Laws.dwRows_rx, List.forall_iff_forall_mem]
    exact rxRows_standFor r m c ops
  · rw [dwRows_timeout]
    split_ifs
    next h hm => obtain ⟨rfl, rfl, rfl⟩ := h; subst hm; exact ⟨rfl, rfl⟩
    next h hm => obtain ⟨rfl, rfl, rfl⟩ := h; rw [bit_one hm]; exact ⟨rfl, rfl⟩
    next => trivial
  · rw [dwRows_tick]
    split
    next h => obtain ⟨rfl, rfl⟩ := h; exact ⟨rfl, rfl⟩
    next => trivial

/-! ## One word, one row (30_encoding R103) -/

/-- At most one of these rows has its condition in the state. -/
def Exclusive (s : State) (rows : List Instr) : Prop :=
  rows.Pairwise (fun i j => enabled i s = true → enabled j s = false)

/-- Of rows that exclude each other, the one whose condition holds is found. -/
theorem find?_of_exclusive {s : State} {i : Instr} {rows : List Instr} (hx : Exclusive s rows) (hi : i ∈ rows)
    (he : enabled i s = true) : rows.find? (fun j => enabled j s) = some i := by
  induction rows with
  | nil => cases hi
  | cons j rest ih =>
    obtain ⟨hj, hrest⟩ := List.pairwise_cons.mp hx
    rcases List.mem_cons.mp hi with rfl | hi
    · exact List.find?_cons_of_pos he
    · have hoff : ¬ enabled j s = true := fun hon => by simp [hj i hi hon] at he
      rw [List.find?_cons_of_neg (p := fun j => enabled j s) hoff]
      exact ih hrest hi

section
variable {s : State} {r m : BitVec 1} {c : BitVec 3} {buf : List Byte}

/-- Two rows of control state `p` that a check tells apart, before rows of other control states. -/
theorem exclusive_pair {x y : Instr} {rest : List Instr} (p : Ctl) (check : Bool)
    (hx : enabled x s = true → s.blk.st = p ∧ check = true) (hy : enabled y s = true → s.blk.st = p ∧ check = false)
    (hrest : ∀ z ∈ rest, enabled z s = true → s.blk.st ≠ p) (h : Exclusive s rest) : Exclusive s (x :: y :: rest) := by
  have off (hp : s.blk.st = p) : ∀ z ∈ rest, enabled z s = false := fun z hz =>
    Bool.eq_false_iff.mpr fun hon => hrest z hz hon hp
  have hxy (hon : enabled x s = true) : enabled y s = false :=
    Bool.eq_false_iff.mpr fun hy' => Bool.false_ne_true ((hy hy').2.symm.trans (hx hon).2)
  exact List.pairwise_cons.mpr ⟨fun z hz hon => (List.mem_cons.mp hz).elim (fun e => e ▸ hxy hon)
    (off (hx hon).1 z), List.pairwise_cons.mpr ⟨fun z hz hon => off (hy hon).1 z hz, h⟩⟩

/-- A row of an endpoint that handles buffers, before the row of one that drops them (43_session_control R190). -/
theorem exclusive_inactive {x : Instr} (hx : enabled x s = true → s.blk.st.isInactive = false) :
    Exclusive s [x, .rxInactive r m c buf] :=
  List.pairwise_pair.mpr hx

/-- A buffer is dropped undecoded in no control state but the inactive ones. -/
theorem inactive_off {p : Ctl} (hp : p.isInactive = false) :
    ∀ z ∈ [Instr.rxInactive r m c buf], enabled z s = true → s.blk.st ≠ p := by
  rw [List.forall_mem_singleton]
  rintro hon rfl
  exact Bool.false_ne_true (hp.symm.trans hon)

theorem answering_not_inactive (h : answering s = true) : s.blk.st.isInactive = false := by
  simp only [answering, Bool.or_eq_true, inState_iff] at h
  rcases h with h | h <;> rw [h] <;> rfl

/-- A receiver's rows for a segment it can accept: the expected number, another, or the receiver has closed. -/
theorem receiver_rows_exclusive {ok other reack : Instr}
    (hok : enabled ok s = true → s.blk.st = .listen ∧ (dec s buf).hasSeq s.blk.expected = true)
    (hother : enabled other s = true → s.blk.st = .listen ∧ (dec s buf).hasSeq s.blk.expected = false)
    (hreack : enabled reack s = true → s.blk.st = .closed) :
    Exclusive s [ok, other, reack, .rxInactive r m c buf] :=
  exclusive_pair .listen _ hok hother
    (List.forall_mem_cons.mpr ⟨fun h => by simp [hreack h], inactive_off rfl⟩)
    (exclusive_inactive fun h => by rw [hreack h]; rfl)

/-- The rows of a stop-and-wait sender for a buffer. -/
theorem sws_rows_exclusive :
    Exclusive s [.swsAckOk buf, .swsAckBad c buf, .swsRxReady c buf, .rxInactive r m c buf] :=
  exclusive_pair .awaitingAck (awaitedAck buf s) (by simp +contextual [enabled, condSwsAckOk, inState])
    (by simp +contextual [enabled, condSwsAckBad, inState])
    (List.forall_mem_cons.mpr ⟨by simp +contextual [enabled, condSwsRxReady, inState], inactive_off rfl⟩)
    (exclusive_inactive (by simp +contextual [enabled, condSwsRxReady, inState, Ctl.isInactive]))

/-- The rows of a Go-Back-N sender for an acknowledgment. -/
theorem gbs_ack_rows_exclusive : Exclusive s [.gbsAck buf, .gbsAckStale buf, .rxInactive r m c buf] :=
  exclusive_pair .ready (ackIsNew (dec s buf).seqNum s) (by simp +contextual [enabled, condGbsAck, inState])
    (by simp +contextual [enabled, condGbsAckStale, inState])
    (inactive_off rfl) (List.pairwise_singleton _ _)

end

/-- The rows of an `RX_FRAME` word exclude each other. -/
theorem rxRows_exclusive (r m : BitVec 1) (c : BitVec 3) (buf : List Byte) (s : State) :
    Exclusive s (rxRows r m c buf) := by
  unfold rxRows
  split_ifs
  · exact sws_rows_exclusive
  · exact List.Pairwise.sublist (List.sublist_cons_self _ _) sws_rows_exclusive
  · exact gbs_ack_rows_exclusive
  · exact exclusive_inactive (by simp +contextual [enabled, condGbsDiscard, inState, Ctl.isInactive])
  · exact receiver_rows_exclusive (by simp +contextual [enabled, condSwrDataOk, inState])
      (by simp +contextual [enabled, condSwrDataDup, inState])
      (by simp +contextual [enabled, condSwrClosedReack, inState])
  · exact exclusive_inactive (by simp +contextual [enabled, condSwrAckIgn, answering_not_inactive])
  · exact receiver_rows_exclusive (by simp +contextual [enabled, condSwrFinOk, inState])
      (by simp +contextual [enabled, condSwrFinDup, inState])
      (by simp +contextual [enabled, condSwrClosedReack, inState])
  · exact exclusive_inactive (by simp +contextual [enabled, condSwrCorrupt, answering_not_inactive])
  · exact receiver_rows_exclusive (by simp +contextual [enabled, condGbrDataOk, inState])
      (by simp +contextual [enabled, condGbrDataOoo, inState])
      (by simp +contextual [enabled, condGbrClosedReack, inState])
  · exact exclusive_inactive (by simp +contextual [enabled, condGbrAckIgn, answering_not_inactive])
  · exact receiver_rows_exclusive (by simp +contextual [enabled, condGbrFinOk, inState])
      (by simp +contextual [enabled, condGbrFinOoo, inState])
      (by simp +contextual [enabled, condGbrClosedReack, inState])
  · exact exclusive_inactive (by simp +contextual [enabled, condGbrCorrupt, answering_not_inactive])
  · exact .nil

/-- The rows of a dispatch word exclude each other. -/
theorem dwRows_exclusive (w : Byte) (ops : List Byte) (s : State) : Exclusive s (dwRows w ops) := by
  have admitted (r m : BitVec 1) (kind : TxKind) (p : List Byte) {x : Instr}
      (h : enabled x s = true → txAdmit kind p s = .ok) : Exclusive s [x, .txRefuse r m kind p] :=
    List.pairwise_pair.mpr fun hx => by simp [enabled, h hx]
  rw [← dwByte_fields w]
  generalize dwRole w = r, dwMode w = m, dwEv w = e, dwCls w = c
  rcases event_cases e with rfl | rfl | rfl | rfl | rfl | rfl | rfl | rfl
  · rw [dwRows_reserved]; exact .nil
  · rw [dwRows_open]
    split_ifs
    · simp +contextual [Exclusive, enabled, condOpen, condOpenBadcfg, condOpenBadstate]
    · exact .nil
  · rw [dwRows_push]
    split_ifs
    · exact admitted r m .push ops (by simp +contextual [enabled, condSwsPush])
    · exact admitted r m .push ops (by simp +contextual [enabled, condGbsPush])
    · exact List.pairwise_singleton _ _
    · exact .nil
  · rw [dwRows_close]
    split_ifs
    · exact admitted r m .close [] (by simp +contextual [enabled, condSwsClose])
    · exact admitted r m .close [] (by simp +contextual [enabled, condGbsClose])
    · exact List.pairwise_singleton _ _
    · exact .nil
  · by_cases hops : ops.length = 1
    · obtain ⟨cause, rfl⟩ := List.length_eq_one_iff.mp hops
      rw [dwRows_abort]
      split_ifs
      · exact List.pairwise_pair.mpr fun h => by simpa [enabled] using h
      · exact .nil
    · rw [dwRows_abort_operand _ _ _ _ hops]; exact .nil
  · rw [Laws.dwRows_rx]; exact rxRows_exclusive r m c ops s
  · rw [dwRows_timeout]
    split_ifs
    · exact List.pairwise_singleton _ _
    · exact List.pairwise_singleton _ _
    · exact .nil
  · rw [dwRows_tick]
    split_ifs
    · exact List.pairwise_singleton _ _
    · exact .nil

end Sys2Proof.Proofs
end

section
/-! # Words and operations (O40, O46, O47, O48)

Decoding and encoding agree, format by format; a dispatch word and a state name one of the word's rows. -/

namespace Sys2Proof.Proofs

open Sys2Proof Sys2Proof.Machine Sys2Proof.Safety

/-! ## The words of the other formats -/

theorem be16Bytes_be16_append (x y : Byte) (rest : List Byte) : be16Bytes (be16 x y) ++ rest = x :: y :: rest := by
  simp

/-- The frame row of a buffer stands for that buffer (30_encoding R99). -/
theorem frameWord_standsFor (buf : List Byte) : StandsFor .frame buf (decodeFrameWord buf) := by
  have hbytes := frameWord_bytes buf
  suffices h : (decodeFrameWord buf).wellFormed = true ∧ (encode (decodeFrameWord buf)).1 = .frame from
    ⟨h.1, Prod.ext h.2 hbytes⟩
  clear hbytes
  unfold decodeFrameWord
  split
  next s1 s0 f l1 l0 rest =>
    split
    next hill => exact ⟨hill, rfl⟩
    next hlegal =>
      have hrest : 2 ≤ rest.length := by
        simp only [illegalHeader, decide_eq_true_eq, not_or, Nat.not_lt] at hlegal
        exact hlegal.1
      split_ifs <;> exact ⟨decide_eq_true hrest, rfl⟩
  next short hshort =>
    refine ⟨?_, rfl⟩
    simp only [Instr.wellFormed, illegalHeader]

/-- A command code that is none of the four is reserved (30_encoding R101). -/
theorem reserved_wellFormed {code : Byte} (h1 : ¬ code = 1) (h2 : ¬ code = 2) (h3 : ¬ code = 3) (h4 : ¬ code = 4) :
    (Instr.cmdReserved code).wellFormed = true := by
  refine decide_eq_true ?_
  bv_omega

theorem decodeCmdWord_standsFor {bs : List Byte} {i : Instr} (h : decodeCmdWord bs = .ok i) :
    StandsFor .cmd bs i ∨ i.wellFormed = true ∧ ∃ code ops, bs = code :: ops ∧ i = .cmdReserved code := by
  unfold decodeCmdWord at h
  split at h
  · cases h
  next code ops =>
    split_ifs at h
    next h1 hops => cases h; subst h1 hops; exact .inl ⟨rfl, rfl⟩
    next h2 => cases h; subst h2; exact .inl ⟨rfl, rfl⟩
    next h3 hops => cases h; subst h3 hops; exact .inl ⟨rfl, rfl⟩
    next h4 =>
      split at h
      · cases h; subst h4; exact .inl ⟨rfl, rfl⟩
      · cases h
    next h1 h2 h3 h4 => cases h; exact .inr ⟨reserved_wellFormed h1 h2 h3 h4, code, ops, rfl, rfl⟩

theorem decodeIcWord_standsFor {bs : List Byte} {i : Instr} (h : decodeIcWord bs = .ok i) : StandsFor .ic bs i := by
  unfold decodeIcWord at h
  split at h
  · cases h
  next sel ops =>
    split at h
    next h0 => cases h; subst h0; exact ⟨rfl, rfl⟩
    next =>
    split at h
    next h2 => cases h; subst h2; exact ⟨rfl, rfl⟩
    next =>
    split at h
    next hsel =>
      split at h
      next c1 c0 rest =>
        rcases hsel with rfl | rfl <;> cases h <;> exact ⟨rfl, by rw [encode, be16Bytes_be16_append]; rfl⟩
      · cases h
    · cases h

theorem decodeSfWord_standsFor {bs : List Byte} {i : Instr} (h : decodeSfWord bs = .ok i) : StandsFor .sf bs i := by
  unfold decodeSfWord at h
  split at h
  · cases h
  next sel ops =>
    split_ifs at h
    next h0 =>
      split at h
      · cases h; subst h0; exact ⟨rfl, by rw [encode, be16Bytes_be16_append]; rfl⟩
      · cases h
    next h1 => cases h; subst h1; exact ⟨rfl, rfl⟩

theorem encodeArmTarget_of_decode {ops : List Byte} {x : ArmTarget} (h : decodeArmTarget ops = .ok x) :
    encodeArmTarget x = ops := by
  unfold decodeArmTarget at h
  split at h
  next tag x1 x0 frame =>
    split_ifs at h
    next h0 => cases h; subst h0; rw [encodeArmTarget, be16Bytes_be16_append]; rfl
    next h1 hframe => cases h; subst h1 hframe; rw [encodeArmTarget, be16Bytes_be16]; rfl
  · cases h

theorem decodeTmWord_standsFor {bs : List Byte} {i : Instr} (h : decodeTmWord bs = .ok i) : StandsFor .tm bs i := by
  unfold decodeTmWord at h
  split at h
  · cases h
  next sel ops =>
    split_ifs at h
    next h0 hops => cases h; subst h0 hops; exact ⟨rfl, rfl⟩
    next h1 =>
      split at h
      next x hx => cases h; subst h1; exact ⟨rfl, by rw [encode, encodeArmTarget_of_decode hx]; rfl⟩
      · cases h
    next h2 =>
      split at h
      · cases h; subst h2; exact ⟨rfl, by rw [encode, be16Bytes_be16]; rfl⟩
      · cases h
    next h3 hops => cases h; subst h3 hops; exact ⟨rfl, rfl⟩
    next h4 hops => cases h; subst h4 hops; exact ⟨rfl, rfl⟩

theorem decodeDwWord_standsFor {bs : List Byte} {i : Instr} (h : decodeDwWord bs = .ok i) : StandsFor .dw bs i := by
  unfold decodeDwWord at h
  split at h
  · cases h
  next w ops =>
    split at h
    · cases h
    next j rest hrows => cases h; exact dwRows_standFor w ops i (by rw [hrows]; exact List.mem_cons_self)

/-! ## Decoding and encoding agree (O47, O48) -/

/-- Settles O48, format by format. -/
theorem decodeThenEncode : Obligations.DecodeThenEncode := by
  unfold Obligations.DecodeThenEncode
  refine ⟨fun f bs i h => ?_, dwRows_standFor, fun _ => rfl⟩
  have stands (hs : StandsFor f bs i) : i.wellFormed = true ∧
      (encode i = (f, bs) ∨ ∃ code ops, f = .cmd ∧ bs = code :: ops ∧ i = .cmdReserved code) :=
    ⟨hs.1, .inl hs.2⟩
  cases f with
  | frame => cases h; exact stands (frameWord_standsFor bs)
  | cmd =>
    rcases decodeCmdWord_standsFor h with hs | ⟨hwf, code, ops, hbs, hi⟩
    · exact stands hs
    · exact ⟨hwf, .inr ⟨code, ops, rfl, hbs, hi⟩⟩
  | ic => exact stands (decodeIcWord_standsFor h)
  | sf => exact stands (decodeSfWord_standsFor h)
  | tm => exact stands (decodeTmWord_standsFor h)
  | dw => exact stands (decodeDwWord_standsFor h)

/-- The word of every well-formed operation stands for it, alone or among the rows it lists. -/
theorem encoded (i : Instr) : Laws.Encoded.Statement i := by
  cases i with
  | frameData => exact Laws.Encoded.frameData _ _ _
  | frameAck => exact Laws.Encoded.frameAck _ _
  | frameFin => exact Laws.Encoded.frameFin _ _
  | frameIllegal => exact Laws.Encoded.frameIllegal _
  | cmdOpen => exact Laws.Encoded.cmdOpen
  | cmdTxPush => exact Laws.Encoded.cmdTxPush _
  | cmdTxClose => exact Laws.Encoded.cmdTxClose
  | cmdAbort => exact Laws.Encoded.cmdAbort _
  | cmdReserved => exact Laws.Encoded.cmdReserved _
  | csum16 => exact Laws.Encoded.csum16 _
  | csum16v => exact Laws.Encoded.csum16v _ _
  | crc16 => exact Laws.Encoded.crc16 _
  | crc16v => exact Laws.Encoded.crc16v _ _
  | encode => exact Laws.Encoded.encode _ _ _
  | decode => exact Laws.Encoded.decode _
  | tmTick => exact Laws.Encoded.tmTick
  | tmArm => exact Laws.Encoded.tmArm _
  | tmCancel => exact Laws.Encoded.tmCancel _
  | tmCancelAll => exact Laws.Encoded.tmCancelAll
  | tmExpired => exact Laws.Encoded.tmExpired
  | evOpen => exact Laws.Encoded.evOpen _ _
  | evOpenBadcfg => exact Laws.Encoded.evOpenBadcfg _ _
  | evOpenBadstate => exact Laws.Encoded.evOpenBadstate _ _
  | evAbort => exact Laws.Encoded.evAbort _ _ _
  | evAbortBadstate => exact Laws.Encoded.evAbortBadstate _ _ _
  | txRefuse => exact Laws.Encoded.txRefuse _ _ _ _
  | rxInactive => exact Laws.Encoded.rxInactive _ _ _ _
  | evTick => exact Laws.Encoded.evTick _ _
  | swsPush => exact Laws.Encoded.swsPush _
  | swsClose => exact Laws.Encoded.swsClose
  | swsAckOk => exact Laws.Encoded.swsAckOk _
  | swsAckBad => exact Laws.Encoded.swsAckBad _ _
  | swsTimeout => exact Laws.Encoded.swsTimeout
  | swsRxReady => exact Laws.Encoded.swsRxReady _ _
  | swrDataOk => exact Laws.Encoded.swrDataOk _
  | swrDataDup => exact Laws.Encoded.swrDataDup _
  | swrFinOk => exact Laws.Encoded.swrFinOk _
  | swrFinDup => exact Laws.Encoded.swrFinDup _
  | swrClosedReack => exact Laws.Encoded.swrClosedReack _ _
  | swrCorrupt => exact Laws.Encoded.swrCorrupt _
  | swrAckIgn => exact Laws.Encoded.swrAckIgn _
  | gbsPush => exact Laws.Encoded.gbsPush _
  | gbsClose => exact Laws.Encoded.gbsClose
  | gbsAck => exact Laws.Encoded.gbsAck _
  | gbsAckStale => exact Laws.Encoded.gbsAckStale _
  | gbsDiscard => exact Laws.Encoded.gbsDiscard _ _
  | gbsTimeout => exact Laws.Encoded.gbsTimeout
  | gbrDataOk => exact Laws.Encoded.gbrDataOk _
  | gbrDataOoo => exact Laws.Encoded.gbrDataOoo _
  | gbrFinOk => exact Laws.Encoded.gbrFinOk _
  | gbrFinOoo => exact Laws.Encoded.gbrFinOoo _
  | gbrClosedReack => exact Laws.Encoded.gbrClosedReack _ _
  | gbrCorrupt => exact Laws.Encoded.gbrCorrupt _
  | gbrAckIgn => exact Laws.Encoded.gbrAckIgn _

/-- A dispatch word is, in a state, the row of it whose condition holds. -/
theorem decodeIn_row {s : State} {w : Byte} {ops : List Byte} {i : Instr} (hi : i ∈ dwRows w ops)
    (he : enabled i s = true) : decodeIn s .dw (w :: ops) = .ok i := by
  simp only [decodeIn, find?_of_exclusive (dwRows_exclusive w ops s) hi he]

/-- A word of any other format is read alike in every state. -/
theorem decodeIn_of_not_dw {s : State} {f : Format} (bs : List Byte) (h : f ≠ .dw) : decodeIn s f bs = decode f bs := by
  cases f with
  | dw => exact absurd rfl h
  | _ => rfl

/-- Settles O47: a row's word lists it, and no other row of the word has its condition. -/
theorem encodeThenDecode : Obligations.EncodeThenDecode := by
  unfold Obligations.EncodeThenDecode
  intro i s hwf he
  have hword := encoded i hwf
  revert hword
  rcases encode i with ⟨f, bs⟩
  intro hword
  by_cases hf : f = .dw
  · subst hf
    obtain ⟨w, ops, rfl, hi⟩ := hword
    exact decodeIn_row hi he
  · rw [decodeIn_of_not_dw bs hf]
    cases f with
    | dw => exact absurd rfl hf
    | _ => exact hword

/-! ## A step runs what its word decodes to (O40), and the words of the tables (O46) -/

/-- An operation issued first on the agenda is taken up, and the taking leaves the state as it was (log 12). -/
theorem fetch_issueFirst (f : Format) (bs : List Byte) (s : State) : fetch (issueFirst f bs s) = .word f bs s :=
  fetch_cons (s := issueFirst f bs s) rfl

theorem step_of_word {s u : State} {f : Format} {bs : List Byte} {i : Instr} (hf : fetch s = .word f bs u)
    (hd : decodeIn u f bs = .ok i) : step s = exec i u := by
  simp only [step, hf, hd]

theorem step_of_undecodable {s u : State} {f : Format} {bs : List Byte} {e : DecodeError} (hf : fetch s = .word f bs u)
    (hd : decodeIn u f bs = .error e) : step s = .refused (.undecodable e) := by
  simp only [step, hf, hd]

/-- Settles O40, by the outcomes of the fetch and of the decoder. -/
theorem stepRunsDecoded : Obligations.StepRunsDecoded := by
  unfold Obligations.StepRunsDecoded
  exact ⟨fun _ _ _ _ _ => step_of_word, fun _ _ => step_of_still, fun _ _ _ _ _ => step_of_undecodable,
    fun s f bs => fetch_issueFirst f bs s⟩

/-- Settles O46: the decoder is run on each of the words. -/
theorem knownWordsDecode : Obligations.KnownWordsDecode := by
  unfold Obligations.KnownWordsDecode
  exact ⟨rfl, rfl, rfl, rfl, rfl, rfl, rfl, rfl, rfl, rfl, rfl, rfl, rfl⟩

end Sys2Proof.Proofs
end

section
/-! # Frames at the ports (O38)

The bytes of a frame row fix what DECODE makes of them (`decodeSeg_verified`, `decodeSeg_illegal`), and that with the
control state fixes the row that handles the buffer. -/

namespace Sys2Proof.Proofs

open Sys2Proof Sys2Proof.Machine Sys2Proof.Safety

/-! ## The bytes of a frame row (30_encoding R96 to R99) -/

theorem frameData_bytes (seq c : Half) (p : List Byte) :
    (encode (.frameData seq (BitVec.ofNat 16 p.length) (p ++ be16Bytes c))).2 =
      frameBody seq flagData p ++ be16Bytes c := by
  simp [encode, frameBody, flagData]

theorem frameAck_bytes (seq c : Half) :
    (encode (.frameAck seq (be16Bytes c))).2 = frameBody seq flagAck [] ++ be16Bytes c := rfl

theorem frameFin_bytes (seq c : Half) :
    (encode (.frameFin seq (be16Bytes c))).2 = frameBody seq flagFin [] ++ be16Bytes c := rfl

/-- A legal body with a trailer that verifies is its segment, whatever the trailer (40_integrity_codec R130). -/
theorem decodeSeg_verified {c : Ses} {seq v : Half} {flag : Byte} {p : List Byte}
    (hpre : encodePre c seq flag p = true) (hver : icVer c.alg (frameBody seq flag p) v = true) :
    decodeSeg c (frameBody seq flag p ++ be16Bytes v) = .segment seq flag p := by
  have hbody := frameBody_length seq flag p
  rw [decodeSeg_append (by omega) hver, hbody, show 5 + p.length + 2 = p.length + 7 by omega]
  exact decodeFields_frameBody hpre

/-- A length field is 0 only where both its bytes are. -/
theorem be16_toNat_eq_zero {x y : Byte} (h : (be16 x y).toNat = 0) : x = 0 ∧ y = 0 := by
  have hz : be16 x y = be16 0 0 := BitVec.eq_of_toNat_eq h
  exact ⟨by rw [← hiByte_be16 x y, hz, hiByte_be16], by rw [← loByte_be16 x y, hz, loByte_be16]⟩

/-- The field checks reject a reserved flag, and an ACK or FIN with a length. -/
theorem decodeFields_illegal (c : Ses) (n : Nat) {s1 s0 f l1 l0 : Byte} (p : List Byte)
    (h : 2 < f.toNat ∨ (f ≠ 0 ∧ (l1 ≠ 0 ∨ l0 ≠ 0))) :
    ∃ sub, decodeFields c n (s1 :: s0 :: f :: l1 :: l0 :: p) = .corrupt sub := by
  simp only [decodeFields]
  split_ifs
  iterate 5 next => exact ⟨_, rfl⟩
  next hflag _ _ hlen =>
    obtain ⟨hf, hl⟩ := h.resolve_left hflag
    have hzero : (be16 l1 l0).toNat = 0 := not_not.mp fun hne => hlen ⟨hf, hne⟩
    obtain ⟨h1, h0⟩ := be16_toNat_eq_zero hzero
    exact absurd hl (by simp [h1, h0])

theorem decodeSeg_short {c : Ses} {buf : List Byte} (h : buf.length < 7) :
    decodeSeg c buf = .corrupt .truncated := if_pos h

/-- DECODE rejects every buffer with no legal header (30_encoding R99). -/
theorem decodeSeg_illegal (c : Ses) {buf : List Byte} (h : illegalHeader buf = true) :
    ∃ sub, decodeSeg c buf = .corrupt sub := by
  by_cases hshort : buf.length < 7
  · exact ⟨_, decodeSeg_short hshort⟩
  rcases buf with _ | ⟨s1, _ | ⟨s0, _ | ⟨f, _ | ⟨l1, _ | ⟨l0, rest⟩⟩⟩⟩⟩
  case cons.cons.cons.cons.cons =>
    have hrest : 2 ≤ rest.length := by simp only [List.length_cons] at hshort; omega
    have hfields : 2 < f.toNat ∨ (f ≠ 0 ∧ (l1 ≠ 0 ∨ l0 ≠ 0)) :=
      (of_decide_eq_true h).resolve_left (Nat.not_lt.mpr hrest)
    have hbody : (s1 :: s0 :: f :: l1 :: l0 :: rest).length - 2 = rest.length - 2 + 5 := by
      simp only [List.length_cons]; omega
    rw [decodeSeg, if_neg hshort, hbody]
    split_ifs
    · exact decodeFields_illegal c _ _ hfields
    · exact ⟨_, rfl⟩
  all_goals simp at hshort

/-! ## What handles a buffer -/

section
variable {s : State} {buf p : List Byte}

/-- What a receiver expects next, as the arithmetic of 00_scope R12 writes it. -/
theorem nextExpected_eq (hses : SesLegal s.hw s.blk.ses) (hexp : s.blk.expected.toNat < s.blk.ses.m.toNat) :
    nextExpected s = seqSucc s.blk.expected s.blk.ses.m := by
  apply BitVec.eq_of_toNat_eq
  rw [nextExpected_toNat hses hexp, seqSucc_toNat _ (modulus_pos hses) (modulus_le hses)]

/-- An endpoint that decodes hands a buffer to the machine of its role and mode (43_session_control R182). -/
theorem rxFrame_active (h : s.blk.st.isInactive = false) : rxFrame buf s =
    match s.blk.ses.role, s.blk.ses.mode with
    | .sender, .sw => rxSws buf s
    | .sender, .gbn => rxGbs buf s
    | .receiver, .sw => rxSwr buf s
    | .receiver, .gbn => rxGbr buf s := by
  rw [rxFrame, h]; rfl

/-- A listening stop-and-wait receiver's rule for a segment with the number it expects. -/
theorem rxSwr_expected {flag : Byte} (hst : s.blk.st = .listen) (hdec : dec s buf = .segment s.blk.expected flag p) :
    rxSwr buf s = if flag = flagAck then execSwrAckIgn buf s
      else if flag = flagData then execSwrDataOk buf s else execSwrFinOk buf s := by
  simp [rxSwr, hst, hdec, Decoded.isCorrupt, Decoded.hasFlag, Decoded.hasSeq]

/-- A listening Go-Back-N receiver's rule for a segment with the number it expects. -/
theorem rxGbr_expected {flag : Byte} (hst : s.blk.st = .listen) (hdec : dec s buf = .segment s.blk.expected flag p) :
    rxGbr buf s = if flag = flagAck then execGbrAckIgn buf s
      else if flag = flagData then execGbrDataOk buf s else execGbrFinOk buf s := by
  simp [rxGbr, hst, hdec, Decoded.isCorrupt, Decoded.hasFlag, Decoded.hasSeq]

/-- A listening receiver accepts the DATA or the FIN it expects (44_stop_and_wait R211, R213, 45_go_back_n R241,
R243). -/
theorem rxFrame_accepted {flag : Byte} (hflag : flag = flagData ∨ flag = flagFin) (hr : s.blk.ses.role = .receiver)
    (hst : s.blk.st = .listen) (hdec : dec s buf = .segment s.blk.expected flag p) :
    rxFrame buf s = .next (if flag = flagData then acceptData (nextExpected s) (dec s buf) s
      else acceptFin (nextExpected s) (dec s buf) s) := by
  have hf : (dec s buf).hasFlag flag = true := by rw [hdec]; exact decide_eq_true rfl
  have hseq : (dec s buf).hasSeq s.blk.expected = true := by rw [hdec]; exact decide_eq_true rfl
  rw [rxFrame_active (by rw [hst]; rfl), hr]
  cases hm : s.blk.ses.mode with
  | sw =>
    rw [nextExpected_sw hm]
    refine (rxSwr_expected hst hdec).trans ?_
    rcases hflag with rfl | rfl <;> exact guarded_of _ _ (accepts_iff.mpr ⟨hr, hm, hst, hf, hseq⟩)
  | gbn =>
    rw [nextExpected_gbn hm]
    refine (rxGbr_expected hst hdec).trans ?_
    rcases hflag with rfl | rfl <;> exact guarded_of _ _ (accepts_iff.mpr ⟨hr, hm, hst, hf, hseq⟩)

/-- A receiver records a rejected buffer (44_stop_and_wait R216, 45_go_back_n R246). -/
theorem rxFrame_corrupt {sub : CorruptSub} (hr : s.blk.ses.role = .receiver)
    (hst : s.blk.st = .listen ∨ s.blk.st = .closed) (hdec : dec s buf = .corrupt sub) :
    rxFrame buf s = .next (raise (.corruptFrame sub) s) := by
  have hcor : (dec s buf).isCorrupt = true := by rw [hdec]; rfl
  have hcause : (dec s buf).receiverCause = .corruptFrame sub := by rw [hdec]; rfl
  have hans : answering s = true := by rcases hst with h | h <;> simp [answering, inState, h]
  have hact : s.blk.st.isInactive = false := by rcases hst with h | h <;> rw [h] <;> rfl
  rw [rxFrame_active hact, hr, ← hcause]
  cases hm : s.blk.ses.mode with
  | sw =>
    have hrow : rxSwr buf s = execSwrCorrupt buf s := by rcases hst with h | h <;> simp [rxSwr, h, hcor]
    refine hrow.trans (guarded_of _ _ ?_)
    simp [condSwrCorrupt, runsAs_iff, hr, hm, hans, hcor]
  | gbn =>
    have hrow : rxGbr buf s = execGbrCorrupt buf s := by rcases hst with h | h <;> simp [rxGbr, h, hcor]
    refine hrow.trans (guarded_of _ _ ?_)
    simp [condGbrCorrupt, runsAs_iff, hr, hm, hans, hcor]

/-- A waiting stop-and-wait sender takes the acknowledgment it awaits (44_stop_and_wait R203). -/
theorem rxFrame_sws_ack (hr : s.blk.ses.role = .sender) (hm : s.blk.ses.mode = .sw) (hst : s.blk.st = .awaitingAck)
    (hdec : dec s buf = .segment (seqOfBit s.blk.b) flagAck p) : rxFrame buf s =
      .next (setSt (if s.blk.fin then .done else .ready) (setB (flipBit s.blk.b) (cancelOldest 1 s))) := by
  have hack : awaitedAck buf s = true := by simp [awaitedAck, hdec, Decoded.hasFlag, Decoded.hasSeq]
  have hrow : rxSws buf s = execSwsAckOk buf s := by simp [rxSws, hst, hack]
  rw [rxFrame_active (by rw [hst]; rfl), hr, hm]
  refine hrow.trans (guarded_of _ _ ?_)
  simp [condSwsAckOk, runsAs_iff, inState_iff, hr, hm, hst, hack]

/-- A Go-Back-N sender takes an acknowledgment of an outstanding segment (45_go_back_n R233). -/
theorem rxFrame_gbs_ack {a : Half} (hr : s.blk.ses.role = .sender) (hm : s.blk.ses.mode = .gbn)
    (hst : s.blk.st = .ready) (hdec : dec s buf = .segment a flagAck p) (hnew : ackDist a s < s.blk.rtx.length) :
    rxFrame buf s = .next (finishIfDrained (retire a s)) := by
  have hflag : (dec s buf).hasFlag flagAck = true := by rw [hdec]; rfl
  have hseq : (dec s buf).seqNum = a := by rw [hdec]; rfl
  have hok : ackIsNew (dec s buf).seqNum s = true := by rw [hseq]; exact decide_eq_true hnew
  have hrow : rxGbs buf s = execGbsAck buf s := by simp [rxGbs, hst, hflag, hok]
  rw [rxFrame_active (by rw [hst]; rfl), hr, hm, ← hseq]
  refine hrow.trans (guarded_of _ _ ?_)
  simp [condGbsAck, runsAs_iff, inState_iff, hr, hm, hst, hflag, hok]

/-- What is left after an acknowledgment of an outstanding segment: the session is done where it was the last and the
FIN has been built. -/
theorem finishIfDrained_retire {a : Half} (hnew : ackDist a s < s.blk.rtx.length) :
    finishIfDrained (retire a s) = { s with blk := { s.blk with
      rtx := s.blk.rtx.drop (ackDist a s + 1)
      base := seqSucc a s.blk.ses.m
      st := if s.blk.fin = true ∧ s.blk.rtx.length = ackDist a s + 1 then .done else s.blk.st } } := by
  have hlast : s.blk.rtx.drop (ackDist a s + 1) = [] ↔ s.blk.rtx.length = ackDist a s + 1 := by
    rw [List.drop_eq_nil_iff]; omega
  rw [retire_eq, finishIfDrained]
  simp only [Bool.and_eq_true, decide_eq_true_eq, hlast]
  split_ifs <;> rfl

end

/-- CorruptFrame is recorded with its sub-cause and its sticky flag (60_exceptions R262). -/
theorem raise_corruptFrame (sub : CorruptSub) (s : State) : raise (.corruptFrame sub) s =
    { s with blk := { s.blk with lastCause := .corruptFrame sub, corruptSeen := true } } := by
  simp [raise, Cause.isCorrupt]

/-- An acknowledgment of a number of the session is its frame (41_segment_framer R147). -/
theorem mkAck_eq {c : Ses} {a : Half} (h : a.toNat < c.m.toNat) : mkAck c a = frameBytes c.alg a flagAck [] :=
  encodeSeg_of_pre (encodePre_ack h)

/-- Settles O38: the bytes decode to the segment, and the segment with the control state has one row. -/
theorem frameRowsAct : Obligations.FrameRowsAct := by
  unfold Obligations.FrameRowsAct
  refine ⟨?data, ?fin, ?swAck, ?gbnAck, ?illegal⟩
  case data =>
    rintro s seq c p hses hr hst rfl hpre hver
    have hseq := (encodePre_iff.mp hpre).1
    have hdec : dec s _ = .segment s.blk.expected flagData p := decodeSeg_verified hpre hver
    show rxFrame (encode (.frameData _ _ _)).2 s = _
    rw [frameData_bytes, rxFrame_accepted (.inl rfl) hr hst hdec, if_pos rfl, acceptData_eq, hdec,
      nextExpected_eq hses hseq]
    simp only [Decoded.seqNum, Decoded.payload, mkAck_eq hseq]
    rfl
  case fin =>
    rintro s seq c hses hr hst rfl hseq hver
    have hdec : dec s _ = .segment s.blk.expected flagFin [] := decodeSeg_verified (encodePre_fin hseq) hver
    show rxFrame (encode (.frameFin _ _)).2 s = _
    rw [frameFin_bytes, rxFrame_accepted (.inr rfl) hr hst hdec, if_neg (by decide), acceptFin_eq, hdec,
      nextExpected_eq hses hseq]
    simp only [Decoded.seqNum, mkAck_eq hseq]
    rfl
  case swAck =>
    intro s c e hses hr hm hst hq hver
    have hseq : (seqOfBit s.blk.b).toNat < s.blk.ses.m.toNat := by rw [(hses.sw hm).2]; exact seqOfBit_lt _
    have hdec : dec s _ = .segment (seqOfBit s.blk.b) flagAck [] := decodeSeg_verified (encodePre_ack hseq) hver
    show rxFrame (encode (.frameAck (seqOfBit s.blk.b) _)).2 s = _
    rw [frameAck_bytes, rxFrame_sws_ack hr hm hst hdec]
    simp [setSt, setB, cancelOldest, setRtx, flipBit, hq]
  case gbnAck =>
    intro s a c d hses hr hm hst ha hd hnew hver
    have hdist : ackDist a s = d := by
      have := seqDist_cast a s.blk.base (modulus_pos hses)
      rw [ackDist]
      omega
    have hdec : dec s _ = .segment a flagAck [] := decodeSeg_verified (encodePre_ack ha) hver
    show rxFrame (encode (.frameAck _ _)).2 s = _
    rw [frameAck_bytes, rxFrame_gbs_ack hr hm hst hdec (hdist ▸ hnew), finishIfDrained_retire (hdist ▸ hnew), hdist,
      hst]
    rfl
  case illegal =>
    intro s buf hr hst hill
    obtain ⟨sub, hsub⟩ := decodeSeg_illegal s.blk.ses hill
    refine ⟨sub, hsub, ?_⟩
    rw [← raise_corruptFrame]
    exact rxFrame_corrupt hr hst hsub

end Sys2Proof.Proofs
end

section
/-! # The Internet checksum (O1, O2, O3, O4)

One's-complement addition is addition of natural numbers followed by `folded` (`addOc_toNat_eq_folded`), and folding can
wait until everything is added (`folded_add`). So the checksum loop computes `folded` of the plain sum of the words, and
a value verifies exactly when it brings that sum to a positive multiple of 0xFFFF (`csumVerify_iff_dvd`). -/

namespace Sys2Proof.Proofs

open Sys2Proof Sys2Proof.Machine Sys2Proof.Safety

/-! ## The fold of a plain sum -/

theorem be16_toNat (x y : Byte) : (be16 x y).toNat = 256 * x.toNat + y.toNat := by
  rw [be16, BitVec.toNat_append, ← Nat.shiftLeft_add_eq_or_of_lt y.isLt, Nat.shiftLeft_eq, Nat.mul_comm]

/-- What a plain sum becomes when every carry has been added back in: 0 for 0, otherwise its residue modulo 0xFFFF taken
in 1 .. 0xFFFF (40_integrity_codec R121, R132). -/
def folded (t : Nat) : Nat := if t = 0 then 0 else (t - 1) % 65535 + 1

theorem folded_of_pos {t : Nat} (h : 0 < t) : folded t = (t - 1) % 65535 + 1 := if_neg h.ne'

/-- A sum of 16 bits has no carry. -/
theorem folded_of_le {t : Nat} (h : t ≤ 65535) : folded t = t := by
  unfold folded
  split_ifs <;> omega

theorem folded_eq_zero_iff {t : Nat} : folded t = 0 ↔ t = 0 := by
  rcases Nat.eq_zero_or_pos t with rfl | h
  · decide
  · rw [folded_of_pos h]
    omega

/-- All ones is the fold of the positive multiples of 0xFFFF. -/
theorem folded_eq_allOnes_iff {t : Nat} : folded t = 65535 ↔ 0 < t ∧ 65535 ∣ t := by
  rcases Nat.eq_zero_or_pos t with rfl | h
  · decide
  · rw [folded_of_pos h]
    omega

/-- A summand may be folded before it is added. -/
theorem folded_add (t u : Nat) : folded (folded t + u) = folded (t + u) := by
  unfold folded
  split_ifs <;> omega

/-! ## One's-complement addition (40_integrity_codec R121) -/

/-- The carry of a 17-bit sum goes back in without a second carry. -/
theorem carryBack_toNat {t : BitVec 17} (h : t.toNat ≤ 131070) :
    (t.extractLsb' 0 16 + (t.extractLsb' 16 1).zeroExtend 16).toNat = t.toNat % 65536 + t.toNat / 65536 := by
  have hcarry : t.toNat / 65536 = 0 ∨ t.toNat / 65536 = 1 := by omega
  simp only [BitVec.toNat_add, BitVec.toNat_setWidth, BitVec.extractLsb'_toNat, Nat.shiftRight_eq_div_pow,
    Nat.pow_zero, Nat.div_one, Nat.reducePow]
  rcases hcarry with hc | hc <;> rw [hc] <;> omega

theorem addOc_toNat (a b : Half) :
    (addOc a b).toNat = (a.toNat + b.toNat) % 65536 + (a.toNat + b.toNat) / 65536 := by
  have hsum : (a.zeroExtend 17 + b.zeroExtend 17).toNat = a.toNat + b.toNat := by
    rw [BitVec.toNat_add, BitVec.toNat_setWidth, BitVec.toNat_setWidth]
    omega
  rw [addOc, carryBack_toNat (by omega), hsum]

theorem addOc_toNat_eq_folded (a b : Half) : (addOc a b).toNat = folded (a.toNat + b.toNat) := by
  have ha := a.isLt
  have hb := b.isLt
  rw [addOc_toNat]
  unfold folded
  split_ifs <;> omega

theorem addOc_comm (a b : Half) : addOc a b = addOc b a := by
  apply BitVec.eq_of_toNat_eq
  rw [addOc_toNat_eq_folded, addOc_toNat_eq_folded, Nat.add_comm]

theorem addOc_assoc (a b c : Half) : addOc (addOc a b) c = addOc a (addOc b c) := by
  apply BitVec.eq_of_toNat_eq
  calc (addOc (addOc a b) c).toNat
      = folded (a.toNat + b.toNat + c.toNat) := by rw [addOc_toNat_eq_folded, addOc_toNat_eq_folded, folded_add]
    _ = folded (b.toNat + c.toNat + a.toNat) := by congr 1; omega
    _ = (addOc a (addOc b c)).toNat := by
      rw [addOc_comm, addOc_toNat_eq_folded, addOc_toNat_eq_folded, folded_add]

@[simp] theorem addOc_zero (a : Half) : addOc a 0#16 = a := by
  apply BitVec.eq_of_toNat_eq
  rw [addOc_toNat_eq_folded]
  exact folded_of_le (Nat.le_of_lt_succ a.isLt)

@[simp] theorem zero_addOc (a : Half) : addOc 0#16 a = a := by rw [addOc_comm, addOc_zero]

/-- All ones is the other zero. -/
theorem addOc_allOnes {a : Half} (h : a ≠ 0#16) : addOc a 0xFFFF#16 = a := by
  have hpos : 0 < a.toNat := BitVec.toNat_pos_of_ne_zero h
  have ha := a.isLt
  apply BitVec.eq_of_toNat_eq
  rw [addOc_toNat, BitVec.toNat_ofNat]
  omega

theorem addOc_eq_zero_iff (a b : Half) : addOc a b = 0#16 ↔ a = 0#16 ∧ b = 0#16 := by
  simp only [← BitVec.toNat_inj, addOc_toNat_eq_folded, BitVec.toNat_ofNat, Nat.zero_mod, folded_eq_zero_iff,
    Nat.add_eq_zero_iff]

/-- Settles O1: every law is one of `folded`, the sum of natural numbers with its carries added back in. -/
theorem onesComplementLaws : Obligations.OnesComplementLaws := by
  refine ⟨addOc_toNat, addOc_comm, addOc_assoc, addOc_zero, fun _ => addOc_allOnes, zero_addOc _, addOc_eq_zero_iff,
    fun a b hab => ?_⟩
  have hpos : 0 < a.toNat + b.toNat := Nat.pos_of_ne_zero fun h =>
    hab ((addOc_eq_zero_iff a b).mp (BitVec.eq_of_toNat_eq (by rw [addOc_toNat_eq_folded, h]; rfl)))
  rw [addOc_toNat_eq_folded, folded_of_pos hpos]

/-- Settles O2. -/
theorem codecRoundTrip : Obligations.CodecRoundTrip :=
  ⟨icVer_icGen, fun _ => addOc_complement _⟩

/-! ## The checksum loop (40_integrity_codec R122, R132) -/

theorem ocsumFrom_toNat (acc : Half) (bytes : List Byte) :
    (ocsumFrom acc bytes).toNat = folded (acc.toNat + wordSum bytes) := by
  induction acc, bytes using ocsumFrom.induct with
  | case1 acc => exact (folded_of_le (Nat.le_of_lt_succ acc.isLt)).symm
  | case2 acc x => exact addOc_toNat_eq_folded _ _
  | case3 acc x y rest ih => rw [ocsumFrom, ih, addOc_toNat_eq_folded, folded_add, wordSum, Nat.add_assoc]

theorem ocsum16_toNat (bytes : List Byte) : (ocsum16 bytes).toNat = folded (wordSum bytes) := by
  rw [ocsum16, ocsumFrom_toNat, BitVec.toNat_ofNat, Nat.zero_mod, Nat.zero_add]

/-- One fold adds a carry back in. -/
theorem folded_foldOnce (t : Nat) : folded (foldOnce t) = folded t := by
  unfold folded foldOnce
  split_ifs <;> omega

theorem folded_foldTimes (n t : Nat) : folded (foldTimes n t) = folded t := by
  induction n generalizing t with
  | zero => rfl
  | succ n ih => rw [foldTimes, ih, folded_foldOnce]

/-- One fold makes a sum of more than 16 bits smaller. -/
theorem foldOnce_lt {t : Nat} (h : 65535 < t) : foldOnce t < t := by
  unfold foldOnce
  omega

theorem exists_foldTimes_le (t : Nat) : ∃ n, foldTimes n t ≤ 65535 := by
  induction t using Nat.strong_induction_on with
  | _ t ih =>
    by_cases ht : t ≤ 65535
    · exact ⟨0, ht⟩
    · obtain ⟨n, hn⟩ := ih (foldOnce t) (foldOnce_lt (Nat.not_le.mp ht))
      exact ⟨n + 1, hn⟩

/-- Each word is at most 0xFFFF, and there is one for every two bytes begun. -/
theorem wordSum_le (bytes : List Byte) : wordSum bytes ≤ 65535 * ((bytes.length + 1) / 2) := by
  induction bytes using wordSum.induct with
  | case1 => exact Nat.zero_le _
  | case2 x =>
    have hword := (be16 x 0#8).isLt
    simp only [wordSum, List.length_singleton]
    omega
  | case3 x y rest ih =>
    have hword := (be16 x y).isLt
    simp only [wordSum, List.length_cons]
    omega

/-- Settles O4: folding keeps `folded` of the sum (`folded_foldTimes`) and comes down to 16 bits
(`exists_foldTimes_le`), where a number is its own fold. -/
theorem deferredFolding : Obligations.DeferredFolding := by
  refine ⟨ocsum16_toNat, ?_, fun bytes => exists_foldTimes_le _, ?_⟩
  · intro bytes n hn
    rw [ocsum16_toNat, ← folded_foldTimes n, folded_of_le hn]
  · intro bytes hlen
    have hsum := wordSum_le bytes
    omega

/-! ## Which values verify (40_integrity_codec R124, R130) -/

theorem addOc_eq_allOnes_iff (a b : Half) :
    addOc a b = 0xFFFF#16 ↔ 0 < a.toNat + b.toNat ∧ 65535 ∣ a.toNat + b.toNat := by
  rw [← BitVec.toNat_inj, addOc_toNat_eq_folded, ← folded_eq_allOnes_iff]
  rfl

/-- A value verifies exactly where it brings the plain sum of the words to a positive multiple of 0xFFFF. -/
theorem csumVerify_iff_dvd (bytes : List Byte) (c : Half) :
    csumVerify bytes c = true ↔ 0 < wordSum bytes + c.toNat ∧ 65535 ∣ wordSum bytes + c.toNat := by
  rw [csumVerify, decide_eq_true_iff, ← BitVec.toNat_inj, addOc_toNat_eq_folded, ocsum16_toNat, folded_add,
    ← folded_eq_allOnes_iff]
  rfl

theorem csumGen_toNat (bytes : List Byte) : (csumGen bytes).toNat = 65535 - (ocsum16 bytes).toNat := by
  have hs := (ocsum16 bytes).isLt
  rw [csumGen, BitVec.toNat_sub, BitVec.toNat_ofNat]
  omega

/-- Away from both zeros one value verifies, the generated one. -/
theorem csumVerify_iff_eq_csumGen {bytes : List Byte} (c : Half) (hlo : 1 ≤ (ocsum16 bytes).toNat)
    (hhi : (ocsum16 bytes).toNat ≤ 0xFFFE) : csumVerify bytes c = true ↔ c = csumGen bytes := by
  have hc := c.isLt
  rw [csumVerify, decide_eq_true_iff, addOc_eq_allOnes_iff, ← BitVec.toNat_inj, csumGen_toNat]
  omega

theorem csumVerify_iff_of_zero {bytes : List Byte} (c : Half) (h : ocsum16 bytes = 0#16) :
    csumVerify bytes c = true ↔ c = 0xFFFF#16 := by
  rw [csumVerify, decide_eq_true_iff, h, zero_addOc]

/-- Where the folded sum is all ones, either zero verifies. -/
theorem csumVerify_iff_of_allOnes {bytes : List Byte} (c : Half) (h : ocsum16 bytes = 0xFFFF#16) :
    csumVerify bytes c = true ↔ c = 0#16 ∨ c = 0xFFFF#16 := by
  have hc := c.isLt
  rw [csumVerify, decide_eq_true_iff, h, addOc_eq_allOnes_iff, ← BitVec.toNat_inj, ← BitVec.toNat_inj]
  simp only [BitVec.toNat_ofNat]
  omega

theorem be16_toNat_eq_zero_iff {x y : Byte} : (be16 x y).toNat = 0 ↔ x = 0 ∧ y = 0 :=
  ⟨be16_toNat_eq_zero, by rintro ⟨rfl, rfl⟩; rfl⟩

theorem wordSum_eq_zero_iff (bytes : List Byte) : wordSum bytes = 0 ↔ ∀ x ∈ bytes, x = 0#8 := by
  induction bytes using wordSum.induct with
  | case1 => simp [wordSum]
  | case2 x => simp [wordSum, be16_toNat_eq_zero_iff]
  | case3 x y rest ih => simp [wordSum, Nat.add_eq_zero_iff, be16_toNat_eq_zero_iff, ih, and_assoc]

theorem ocsum16_eq_zero_iff (bytes : List Byte) : ocsum16 bytes = 0#16 ↔ ∀ x ∈ bytes, x = 0#8 := by
  rw [← BitVec.toNat_inj, ocsum16_toNat, ← wordSum_eq_zero_iff]
  exact folded_eq_zero_iff

/-- A buffer of a frame's length whose trailer does not verify is corrupt, whatever its fields (41_segment_framer
R143). -/
theorem decodeSeg_unverified {c : Ses} {body : List Byte} {v : Half} (hlen : 5 ≤ body.length)
    (hver : icVer c.alg body v = false) : decodeSeg c (body ++ be16Bytes v) = .corrupt .integrity := by
  have htake : (body ++ be16Bytes v).take ((body ++ be16Bytes v).length - 2) = body := by simp
  have hshort : ¬ (body ++ be16Bytes v).length < 7 := by simp; omega
  rw [decodeSeg, if_neg hshort, htake, trailer_append, hver]
  rfl

/-- The example frame of 40_integrity_codec R130: its body's folded sum is all ones, so it is encoded with one zero as
trailer and accepted with both. -/
theorem doubleZero_example {c : Ses} (halg : c.alg = .csum16) (hm : 1 ≤ c.m.toNat) (hmss : 2 ≤ c.mss.toNat) :
    encodeSeg c 0#16 flagData [0xFF, 0xFD] = [0, 0, 0, 0, 2, 0xFF, 0xFD, 0, 0]
    ∧ decodeSeg c [0, 0, 0, 0, 2, 0xFF, 0xFD, 0, 0] = .segment 0#16 flagData [0xFF, 0xFD]
    ∧ decodeSeg c [0, 0, 0, 0, 2, 0xFF, 0xFD, 0xFF, 0xFF] = .segment 0#16 flagData [0xFF, 0xFD]
    ∧ decodeSeg c [0, 0, 0, 0, 2, 0xFF, 0xFD, 0, 1] = .corrupt .integrity := by
  have hpre : encodePre c 0#16 flagData [0xFF, 0xFD] = true := encodePre_iff.mpr ⟨hm, by decide, hmss, .inl rfl⟩
  refine ⟨?_, ?_, ?_, ?_⟩
  · rw [encodeSeg_of_pre hpre, halg]
    decide
  · exact decodeSeg_verified (v := 0#16) hpre (by rw [halg]; decide)
  · exact decodeSeg_verified (v := 0xFFFF#16) hpre (by rw [halg]; decide)
  · exact decodeSeg_unverified (body := frameBody 0#16 flagData [0xFF, 0xFD]) (v := 1#16) (by decide)
      (by rw [halg]; decide)

/-- Settles O3, by the value of the folded sum. -/
theorem checksumDoubleZero : Obligations.ChecksumDoubleZero :=
  ⟨fun _ => rfl, fun _ => csumVerify_iff_eq_csumGen, ocsum16_eq_zero_iff, fun _ => csumVerify_iff_of_zero,
    fun _ c h => ⟨by rw [csumGen, h]; rfl, csumVerify_iff_of_allOnes c h⟩, fun _ => doubleZero_example⟩

end Sys2Proof.Proofs
end

section
/-! # The CRC (O5)

One shift of the register is linear over XOR and injective. Two bytes that enter with 16 shifts after them do what their
word does when it is added whole before the shifts (`foldl_crcByte_be16Bytes`); so the register ends at 0 exactly where
the word was the register itself. -/

namespace Sys2Proof.Proofs

open Sys2Proof Sys2Proof.Machine Sys2Proof.Safety

/-! ## One shift (40_integrity_codec R125) -/

theorem crcShift_of_top_false {r : Half} (h : r.getLsbD 15 = false) : crcShift r = r <<< 1 := by
  rw [crcShift, h]
  rfl

theorem crcShift_zero : crcShift 0#16 = 0#16 := by decide

theorem crcShift_xor (a b : Half) : crcShift (a ^^^ b) = crcShift a ^^^ crcShift b := by
  have hcancel (x y : Half) : x ^^^ y = x ^^^ 0x1021#16 ^^^ (y ^^^ 0x1021#16) := by
    rw [BitVec.xor_assoc, BitVec.xor_comm y, ← BitVec.xor_assoc 0x1021#16, BitVec.xor_self, BitVec.zero_xor]
  simp only [crcShift, BitVec.getLsbD_xor, BitVec.shiftLeft_xor_distrib]
  cases a.getLsbD 15 <;> cases b.getLsbD 15
  case true.true => exact hcancel _ _
  all_goals simp only [Bool.false_bne, Bool.bne_false, if_true, if_false, Bool.false_eq_true]
  all_goals ac_rfl

/-- The polynomial has a constant term, so the bit shifted out comes back at the bottom and no bit is lost. -/
theorem eq_zero_of_crcShift_eq_zero {r : Half} (h : crcShift r = 0#16) : r = 0#16 := by
  have htop : r.getLsbD 15 = false := by
    by_contra htop
    rw [crcShift, if_pos (eq_true_of_ne_false htop)] at h
    have hbit := congrArg (BitVec.getLsbD · 0) h
    simp at hbit
  rw [crcShift_of_top_false htop] at h
  apply BitVec.eq_of_getLsbD_eq
  intro i hi
  by_cases h15 : i = 15
  · simpa [h15] using htop
  · have hbit := congrArg (BitVec.getLsbD · (i + 1)) h
    simpa [hi, show i + 1 < 16 by omega] using hbit

theorem crcShift_injective : Function.Injective crcShift := by
  intro a b h
  have hzero : crcShift (a ^^^ b) = 0#16 := by rw [crcShift_xor, BitVec.xor_eq_zero_iff]; exact h
  exact BitVec.xor_eq_zero_iff.mp (eq_zero_of_crcShift_eq_zero hzero)

/-! ## Several shifts -/

theorem crcShift_iterate_zero (n : Nat) : crcShift^[n] 0#16 = 0#16 := Function.iterate_fixed crcShift_zero n

theorem crcShift_iterate_xor (n : Nat) (a b : Half) :
    crcShift^[n] (a ^^^ b) = crcShift^[n] a ^^^ crcShift^[n] b := by
  induction n generalizing a b with
  | zero => rfl
  | succ n ih => rw [Function.iterate_succ_apply, crcShift_xor, ih]; rfl

theorem crcShift_iterate_eq_zero_iff (n : Nat) (r : Half) : crcShift^[n] r = 0#16 ↔ r = 0#16 :=
  (crcShift_injective.iterate n).eq_iff' (crcShift_iterate_zero n)

/-- A byte at the bottom of the register reaches its top in eight shifts without meeting the polynomial. -/
theorem crcShift_iterate_byte (x : Byte) {n : Nat} (hn : n ≤ 8) :
    crcShift^[n] (x.zeroExtend 16) = x.zeroExtend 16 <<< n := by
  induction n with
  | zero => simp
  | succ n ih =>
    rw [Function.iterate_succ_apply', ih (by omega), crcShift_of_top_false, ← BitVec.shiftLeft_add]
    simp only [BitVec.getLsbD_shiftLeft, BitVec.getLsbD_setWidth]
    rw [BitVec.getLsbD_of_ge x (15 - n) (by omega)]
    simp

/-! ## Bytes -/

/-- A byte enters at the top and eight shifts follow. -/
theorem crcByte_eq_iterate (r : Half) (x : Byte) : crcByte r x = crcShift^[8] (r ^^^ (x.zeroExtend 16 <<< 8)) := rfl

theorem crcByte_right_injective (x : Byte) : Function.Injective (crcByte · x) := by
  intro r r' h
  exact (BitVec.xor_left_inj _).mp (crcShift_injective.iterate 8 h)

theorem crcByte_left_injective (r : Half) : Function.Injective (crcByte r) := by
  intro x y h
  have hshift : x.zeroExtend 16 <<< 8 = y.zeroExtend 16 <<< 8 :=
    (BitVec.xor_right_inj _).mp (crcShift_injective.iterate 8 h)
  apply BitVec.eq_of_getLsbD_eq
  intro i hi
  have hbit := congrArg (BitVec.getLsbD · (i + 8)) hshift
  simpa [show i + 8 < 16 by omega, show i < 16 by omega] using hbit

theorem foldl_crcByte_injective (bytes : List Byte) : Function.Injective (bytes.foldl crcByte ·) := by
  induction bytes with
  | nil => exact Function.injective_id
  | cons x rest ih => exact ih.comp (crcByte_right_injective x)

theorem hiByte_xor_loByte (v : Half) : ((hiByte v).zeroExtend 16 <<< 8) ^^^ (loByte v).zeroExtend 16 = v := by
  apply BitVec.eq_of_getLsbD_eq
  intro i hi
  by_cases h : i < 8
  · simp [hiByte, loByte, h, hi]
  · simp [hiByte, loByte, h, hi, show i - 8 < 8 by omega, show 8 + (i - 8) = i by omega]

/-- A word that enters in two bytes could be added whole before all sixteen shifts. -/
theorem foldl_crcByte_be16Bytes (r v : Half) : (be16Bytes v).foldl crcByte r = crcShift^[16] (r ^^^ v) :=
  calc (be16Bytes v).foldl crcByte r
      = crcShift^[8] (crcShift^[8] (r ^^^ ((hiByte v).zeroExtend 16 <<< 8)) ^^^ ((loByte v).zeroExtend 16 <<< 8)) := rfl
    _ = crcShift^[8] (crcShift^[8] (r ^^^ (((hiByte v).zeroExtend 16 <<< 8) ^^^ (loByte v).zeroExtend 16))) := by
      rw [← crcShift_iterate_byte (loByte v) le_rfl, ← crcShift_iterate_xor 8 (r ^^^ _), BitVec.xor_assoc]
    _ = crcShift^[16] (r ^^^ v) := by rw [hiByte_xor_loByte, ← Function.iterate_add_apply]

/-- The residue of a string followed by a value is 0 for one value only (40_integrity_codec R133). -/
theorem crcGen_append_be16Bytes_eq_zero_iff (bytes : List Byte) (c : Half) :
    crcGen (bytes ++ be16Bytes c) = 0#16 ↔ c = crcGen bytes := by
  rw [crcGen, List.foldl_append, foldl_crcByte_be16Bytes, crcShift_iterate_eq_zero_iff, BitVec.xor_eq_zero_iff, eq_comm]
  rfl

/-- Settles O5. -/
theorem crcResidue : Obligations.CrcResidue :=
  ⟨fun bytes => (crcGen_append_be16Bytes_eq_zero_iff bytes _).mpr rfl, crcGen_append_be16Bytes_eq_zero_iff,
    by simp [crcGen, crcByte, crcShift]⟩

end Sys2Proof.Proofs
end

section
/-! # Errors of one bit (O6)

A flipped bit moves a number up or down by a power of two. For the checksum that power is below 0xFFFF and so takes a
multiple of 0xFFFF to none; the CRC register tells any two different bytes apart, whatever follows. -/

namespace Sys2Proof.Proofs

open Sys2Proof Sys2Proof.Machine Sys2Proof.Safety

/-! ## A flipped bit of a word -/

/-- Two numbers differ by the weight of one bit of a 16-bit word. -/
def OneBitApart (m n : Nat) : Prop := ∃ k < 16, m = n + 2 ^ k ∨ n = m + 2 ^ k

theorem OneBitApart.add_right {m n : Nat} (h : OneBitApart m n) (t : Nat) : OneBitApart (m + t) (n + t) := by
  obtain ⟨k, hk, hmn⟩ := h
  exact ⟨k, hk, by omega⟩

theorem OneBitApart.add_left {m n : Nat} (h : OneBitApart m n) (t : Nat) : OneBitApart (t + m) (t + n) := by
  simpa only [Nat.add_comm t] using h.add_right t

/-- The weight of a bit of a 16-bit word is no multiple of 0xFFFF. -/
theorem OneBitApart.not_dvd {m n : Nat} (h : OneBitApart m n) (hn : 65535 ∣ n) : ¬ 65535 ∣ m := by
  obtain ⟨k, hk, hmn⟩ := h
  have hpos : 0 < 2 ^ k := Nat.two_pow_pos k
  have hle : 2 ^ k ≤ 2 ^ 15 := Nat.pow_le_pow_right (by decide) (by omega)
  omega

/-- Words with no bit in common are added by XOR. -/
theorem xor_eq_add_of_and_eq_zero {w : Nat} {x y : BitVec w} (h : x &&& y = 0#w) : x ^^^ y = x + y := by
  rw [BitVec.add_eq_or_of_and_eq_zero x y h]
  apply BitVec.eq_of_getLsbD_eq
  intro i _
  have hbit : (x.getLsbD i && y.getLsbD i) = false := by rw [← BitVec.getLsbD_and, h, BitVec.getLsbD_zero]
  rw [BitVec.getLsbD_xor, BitVec.getLsbD_or]
  cases hx : x.getLsbD i
  · simp
  · simpa [hx] using hbit

/-- A bit that is clear is set by adding its weight. -/
theorem toNat_xor_bit_of_clear {w j : Nat} {x : BitVec w} (hj : j < w) (h : x.getLsbD j = false) :
    (x ^^^ (1#w <<< j)).toNat = x.toNat + 2 ^ j := by
  have hand : x &&& BitVec.twoPow w j = 0#w := by rw [BitVec.and_twoPow, h]; rfl
  rw [← BitVec.twoPow_eq, xor_eq_add_of_and_eq_zero hand, BitVec.toNat_add_of_and_eq_zero hand,
    BitVec.toNat_twoPow_of_lt hj]

theorem toNat_xor_bit {w j : Nat} (x : BitVec w) (hj : j < w) :
    (x ^^^ (1#w <<< j)).toNat = x.toNat + 2 ^ j ∨ x.toNat = (x ^^^ (1#w <<< j)).toNat + 2 ^ j := by
  cases hbit : x.getLsbD j with
  | false => exact .inl (toNat_xor_bit_of_clear hj hbit)
  | true =>
    right
    have hclear : (x ^^^ (1#w <<< j)).getLsbD j = false := by simp [hbit, hj]
    rw [← toNat_xor_bit_of_clear hj hclear, BitVec.xor_assoc, BitVec.xor_self, BitVec.xor_zero]

theorem xor_bit_ne {w j : Nat} (x : BitVec w) (hj : j < w) : x ^^^ (1#w <<< j) ≠ x := by
  intro h
  have hpos : 0 < 2 ^ j := Nat.two_pow_pos j
  have hor := toNat_xor_bit x hj
  rw [h] at hor
  omega

/-! ## The checksum -/

theorem be16_xor_bit_left (x y : Byte) {j : Nat} (hj : j < 8) :
    OneBitApart (be16 (x ^^^ (1#8 <<< j)) y).toNat (be16 x y).toNat := by
  have hx := toNat_xor_bit x hj
  refine ⟨j + 8, by omega, ?_⟩
  rw [be16_toNat, be16_toNat, Nat.pow_add]
  omega

theorem be16_xor_bit_right (x y : Byte) {j : Nat} (hj : j < 8) :
    OneBitApart (be16 x (y ^^^ (1#8 <<< j))).toNat (be16 x y).toNat := by
  have hy := toNat_xor_bit y hj
  refine ⟨j, by omega, ?_⟩
  rw [be16_toNat, be16_toNat]
  omega

/-- One flipped bit of a string is one flipped bit of one of its words. -/
theorem wordSum_flipAt {bytes : List Byte} {i j : Nat} (hi : i < bytes.length) (hj : j < 8) :
    OneBitApart (wordSum (flipAt i j bytes)) (wordSum bytes) := by
  induction bytes using wordSum.induct generalizing i with
  | case1 => exact absurd hi (Nat.not_lt_zero i)
  | case2 x =>
    obtain rfl : i = 0 := Nat.lt_one_iff.mp hi
    exact be16_xor_bit_left x 0#8 hj
  | case3 x y rest ih =>
    match i with
    | 0 => exact (be16_xor_bit_left x y hj).add_right _
    | 1 => exact (be16_xor_bit_right x y hj).add_right _
    | i + 2 => exact (ih (Nat.lt_of_add_lt_add_right (n := 2) hi)).add_left _

theorem csumVerify_of_oneBitApart {bytes bytes' : List Byte} {c c' : Half} (h : csumVerify bytes c = true)
    (hflip : OneBitApart (wordSum bytes' + c'.toNat) (wordSum bytes + c.toNat)) : csumVerify bytes' c' = false := by
  have hdvd := ((csumVerify_iff_dvd bytes c).mp h).2
  rw [← Bool.not_eq_true, csumVerify_iff_dvd]
  exact fun hver => hflip.not_dvd hdvd hver.2

/-! ## The CRC -/

theorem foldl_crcByte_flipAt_ne {bytes : List Byte} {i j : Nat} (r : Half) (hi : i < bytes.length) (hj : j < 8) :
    (flipAt i j bytes).foldl crcByte r ≠ bytes.foldl crcByte r := by
  induction bytes generalizing r i with
  | nil => exact absurd hi (Nat.not_lt_zero i)
  | cons x rest ih =>
    cases i with
    | zero =>
      intro h
      exact xor_bit_ne x hj (crcByte_left_injective r (foldl_crcByte_injective rest h))
    | succ i => exact ih (crcByte r x) (Nat.lt_of_succ_lt_succ hi)

theorem crcVerify_iff {bytes : List Byte} {c : Half} : crcVerify bytes c = true ↔ crcGen bytes = c :=
  decide_eq_true_iff

/-- Settles O6, by the algorithm. -/
theorem singleBitErrors : Obligations.SingleBitErrors := by
  intro alg bytes c hver
  cases alg with
  | csum16 =>
    refine ⟨fun i j hi hj => ?_, fun j hj => ?_⟩
    · exact csumVerify_of_oneBitApart hver ((wordSum_flipAt hi hj).add_right _)
    · have hflip : OneBitApart (c ^^^ (1#16 <<< j)).toNat c.toNat := ⟨j, hj, toNat_xor_bit c hj⟩
      exact csumVerify_of_oneBitApart hver (hflip.add_left _)
  | crc16 =>
    obtain rfl : crcGen bytes = c := crcVerify_iff.mp hver
    refine ⟨fun i j hi hj => ?_, fun j hj => ?_⟩
    · exact decide_eq_false (foldl_crcByte_flipAt_ne _ hi hj)
    · exact decide_eq_false (xor_bit_ne _ hj).symm

end Sys2Proof.Proofs
end

section
/-! # The leaf units by themselves (O7) -/

namespace Sys2Proof.Proofs

open Sys2Proof Sys2Proof.Machine Sys2Proof.Safety

theorem exec_encode (seq : Half) (flag : Byte) (p : List Byte) (s : State) :
    exec (.encode seq flag p) s = .next (setUnitOut (.frame (encodeSeg s.blk.ses seq flag p)) s) := rfl

theorem exec_decode (buf : List Byte) (s : State) :
    exec (.decode buf) s = .next (setUnitOut (unitOfDecoded (decodeSeg s.blk.ses buf)) s) := rfl

theorem csumGen_eq_not (bytes : List Byte) : csumGen bytes = ~~~(ocsum16 bytes) := BitVec.allOnes_sub_eq_not _

/-- The words of an acknowledgment's body are its number, 0x0100 and 0 (41_segment_framer R147). -/
theorem ocsum16_ackBody (a : Half) : ocsum16 (frameBody a flagAck []) = addOc a 0x0100#16 :=
  calc ocsum16 (frameBody a flagAck [])
      = addOc (addOc (addOc 0#16 (be16 (hiByte a) (loByte a))) 0x0100#16) 0#16 := rfl
    _ = addOc a 0x0100#16 := by rw [be16_hi_lo, zero_addOc, addOc_zero]

theorem mkAck_csum16 {c : Ses} {a : Half} (ha : a.toNat < c.m.toNat) (halg : c.alg = .csum16) :
    mkAck c a = be16Bytes a ++ [1, 0, 0] ++ be16Bytes (~~~(addOc a 0x0100#16)) := by
  rw [mkAck, encodeSeg_of_pre (encodePre_ack ha), frameBytes, halg, icGen, csumGen_eq_not, ocsum16_ackBody]
  rfl

/-- Settles O7: each unit's operation is its function's value put into `unitOut`. -/
theorem leafUnitResults : Obligations.LeafUnitResults := by
  refine ⟨fun _ _ => rfl, fun _ _ _ => rfl, fun _ _ => rfl, fun _ _ _ => rfl, by decide, ?_,
    fun _ _ _ _ => ⟨_, rfl⟩, ?_, ?_, fun _ _ => mkAck_csum16⟩
  · intro s seq flag p hpre
    rw [exec_encode, encodeSeg_of_pre hpre]
    rfl
  · intro s buf seq flag p hdec
    rw [exec_decode, hdec]
    rfl
  · intro s buf sub hdec
    rw [exec_decode, hdec]
    rfl

end Sys2Proof.Proofs
end

section
/-! # What DECODE accepts (O8, O9)

A buffer is a body and two bytes of trailer (`exists_body_trailer`), and DECODE accepts exactly the bodies of legal
segments under a trailer that verifies (`decodeSeg_eq_segment_iff`). So the two directions of the round trip differ only
by what else verifies a body than its own value (`eq_icGen_or_doubleZero`). -/

namespace Sys2Proof.Proofs

open Sys2Proof Sys2Proof.Machine Sys2Proof.Safety

/-! ## The parts of a buffer (30_encoding R90) -/

theorem take_append_trailer {buf : List Byte} (h : 2 ≤ buf.length) :
    buf.take (buf.length - 2) ++ be16Bytes (trailer buf) = buf := by
  have hlast : be16Bytes (trailer buf) = buf.drop (buf.length - 2) := by
    rw [trailer, be16Bytes_be16, List.drop_eq_getElem_cons (by omega), List.drop_eq_getElem_cons (by omega),
      List.drop_eq_nil_of_le (by omega), List.getD_eq_getElem _ _ (by omega), List.getD_eq_getElem _ _ (by omega)]
    simp only [show buf.length - 2 + 1 = buf.length - 1 by omega]
  rw [hlast, List.take_append_drop]

/-- A buffer of a frame's length has a body, at least the header, and a trailer. -/
theorem exists_body_trailer {buf : List Byte} (h : 7 ≤ buf.length) :
    ∃ (body : List Byte) (v : Half), 5 ≤ body.length ∧ buf = body ++ be16Bytes v :=
  ⟨buf.take (buf.length - 2), trailer buf, by rw [List.length_take]; omega, (take_append_trailer (by omega)).symm⟩

theorem exists_header {buf : List Byte} (h : 5 ≤ buf.length) :
    ∃ (s1 s0 f l1 l0 : Byte) (rest : List Byte), buf = s1 :: s0 :: f :: l1 :: l0 :: rest := by
  rcases buf with _ | ⟨s1, _ | ⟨s0, _ | ⟨f, _ | ⟨l1, _ | ⟨l0, rest⟩⟩⟩⟩⟩
  case cons.cons.cons.cons.cons => exact ⟨s1, s0, f, l1, l0, rest, rfl⟩
  all_goals simp at h

/-! ## What passes the checks (41_segment_framer R143) -/

/-- A body that passes the field checks is the body of a legal segment, the one DECODE answers. -/
theorem decodeFields_eq_segment {c : Ses} {body : List Byte} {seq : Half} {flag : Byte} {p : List Byte}
    (h : decodeFields c (body.length + 2) body = .segment seq flag p) :
    encodePre c seq flag p = true ∧ body = frameBody seq flag p := by
  unfold decodeFields at h
  split at h
  next s1 s0 f l1 l0 rest =>
    dsimp only at h
    split_ifs at h with hlen hflag hseq hmss hempty
    obtain ⟨rfl, rfl, rfl⟩ := Decoded.segment.inj h
    have hlen : (be16 l1 l0).toNat = rest.length := by simp only [List.length_cons] at hlen; omega
    have hfield : BitVec.ofNat 16 rest.length = be16 l1 l0 := by rw [← hlen, BitVec.ofNat_toNat, BitVec.setWidth_eq]
    have hdata : f = flagData ∨ rest = [] := by
      by_contra hc
      obtain ⟨hf, hrest⟩ := not_or.mp hc
      exact hempty ⟨hf, by rwa [hlen, ne_eq, List.length_eq_zero_iff]⟩
    refine ⟨encodePre_iff.mpr ⟨by omega, by omega, by omega, hdata⟩, ?_⟩
    simp [frameBody, hfield]
  next => cases h

/-- DECODE accepts a legal segment's body under a trailer that verifies it, and nothing else. -/
theorem decodeSeg_eq_segment_iff {c : Ses} {buf : List Byte} {seq : Half} {flag : Byte} {p : List Byte} :
    decodeSeg c buf = .segment seq flag p ↔ encodePre c seq flag p = true ∧
      ∃ v, icVer c.alg (frameBody seq flag p) v = true ∧ buf = frameBody seq flag p ++ be16Bytes v := by
  constructor
  · intro h
    have hlong : 7 ≤ buf.length := by
      by_contra hc
      rw [decodeSeg_short (by omega)] at h
      cases h
    obtain ⟨body, v, hbody, rfl⟩ := exists_body_trailer hlong
    cases hver : icVer c.alg body v with
    | false => rw [decodeSeg_unverified hbody hver] at h; cases h
    | true =>
      rw [decodeSeg_append hbody hver] at h
      obtain ⟨hpre, rfl⟩ := decodeFields_eq_segment h
      exact ⟨hpre, v, hver, rfl⟩
  · rintro ⟨hpre, v, hver, rfl⟩
    exact decodeSeg_verified hpre hver

/-- A value that verifies is the generated one, or the other zero of the checksum (40_integrity_codec R130). -/
theorem eq_icGen_or_doubleZero {alg : Alg} {bytes : List Byte} {v : Half} (h : icVer alg bytes v = true) :
    v = icGen alg bytes ∨ (alg = .csum16 ∧ icGen alg bytes = 0#16 ∧ v = 0xFFFF#16) := by
  cases alg with
  | crc16 => exact .inl (crcVerify_iff.mp h).symm
  | csum16 =>
    by_cases hzero : ocsum16 bytes = 0#16
    · left
      rw [(csumVerify_iff_of_zero v hzero).mp h, icGen, csumGen, hzero]
      rfl
    by_cases hones : ocsum16 bytes = 0xFFFF#16
    · have hgen : csumGen bytes = 0#16 := by rw [csumGen, hones]; rfl
      rcases (csumVerify_iff_of_allOnes v hones).mp h with rfl | rfl
      · exact .inl hgen.symm
      · exact .inr ⟨rfl, hgen, rfl⟩
    · have hs := (ocsum16 bytes).isLt
      have hlo := BitVec.toNat_pos_of_ne_zero hzero
      have hhi : (ocsum16 bytes).toNat ≠ 0xFFFF := fun hc => hones (BitVec.eq_of_toNat_eq hc)
      exact .inl ((csumVerify_iff_eq_csumGen v hlo (by omega)).mp h)

/-- Settles O8: an accepted buffer is a legal body and a trailer (`decodeSeg_eq_segment_iff`), and the trailer is
ENCODE's or its double zero (`eq_icGen_or_doubleZero`). -/
theorem framerRoundTrip : Obligations.FramerRoundTrip := by
  refine ⟨fun c seq flag p hpre => ?_, fun c buf seq flag p hdec => ?_⟩
  · rw [encodeSeg_of_pre hpre]
    exact decodeSeg_frameBytes hpre
  · obtain ⟨hpre, v, hver, rfl⟩ := decodeSeg_eq_segment_iff.mp hdec
    have hbody : (frameBody seq flag p ++ be16Bytes v).length - 2 = (frameBody seq flag p).length := by simp
    rw [encodeSeg_of_pre hpre, frameBytes, hbody, List.take_left, List.take_left]
    refine ⟨hpre, rfl, ?_⟩
    rcases eq_icGen_or_doubleZero hver with rfl | ⟨halg, hgen, rfl⟩
    · exact .inl rfl
    · exact .inr ⟨halg, by rw [hgen]; rfl, rfl⟩

/-! ## The checks by byte offsets -/

/-- DECODE of a buffer of a frame's length, its integrity check and then its field checks. -/
theorem decodeSeg_long {c : Ses} {buf : List Byte} (h : 7 ≤ buf.length) :
    decodeSeg c buf = if icVer c.alg (buf.take (buf.length - 2)) (trailer buf) = false then .corrupt .integrity
      else decodeFields c buf.length (buf.take (buf.length - 2)) := by
  rw [decodeSeg, if_neg (Nat.not_lt.mpr h)]
  cases icVer c.alg (buf.take (buf.length - 2)) (trailer buf) <;> rfl

/-- Settles O9. The body of a buffer of a frame's length begins with the buffer's own five header bytes, so the field
checks read them at their offsets. -/
theorem decodeChecksInOrder : Obligations.DecodeChecksInOrder := by
  refine ⟨fun _ => rfl, fun c buf => decodeSeg_short, fun c buf hlong => ?_, fun c buf => decodeSeg_illegal c⟩
  rw [decodeSeg_long hlong]
  obtain ⟨s1, s0, f, l1, l0, rest, rfl⟩ := exists_header (buf := buf) (by omega)
  have hbody : (s1 :: s0 :: f :: l1 :: l0 :: rest).take ((s1 :: s0 :: f :: l1 :: l0 :: rest).length - 2)
      = s1 :: s0 :: f :: l1 :: l0 :: rest.take (rest.length - 2) := by
    have hrest : (s1 :: s0 :: f :: l1 :: l0 :: rest).length - 2 = rest.length - 2 + 5 := by
      simp only [List.length_cons] at hlong ⊢; omega
    rw [hrest]
    rfl
  rw [hbody]
  rfl

end Sys2Proof.Proofs
end

section
/-! # A rejected buffer (O57)

Every machine handles a buffer that DECODE rejects by a rule that reads nothing of it but the sub-cause
(`rxFrame_rejected`), and the sub-cause goes only into the diagnostic fields (`rejected_eraseDiag`). -/

namespace Sys2Proof.Proofs

open Sys2Proof Sys2Proof.Machine Sys2Proof.Safety

/-- The resend of a waiting stop-and-wait sender that takes a buffer for the cause `c` (44_stop_and_wait R204). -/
def resendOldest (c : Cause) (s : State) : Out :=
  match s.blk.rtx with
  | [] => .fault .queueEmpty
  | e :: rest => .next (setRetxSeen (resendHead e rest (raise c s)))

/-- What an endpoint does with a rejected buffer, from the sub-cause and its own state: nothing where it does not decode
(43_session_control R190, 44_stop_and_wait R206), else the raise (44_stop_and_wait R216, 45_go_back_n R235, R246), with
a resend at a waiting stop-and-wait sender (44_stop_and_wait R204). A sender has no rule in the receivers' states, nor a
receiver in the senders'. -/
def rejected (sub : CorruptSub) (s : State) : Out :=
  match s.blk.st with
  | .idle | .done | .aborted => .next s
  | .ready =>
    match s.blk.ses.role, s.blk.ses.mode with
    | .sender, .sw => .next s
    | .sender, .gbn => .next (raise (.corruptFrame sub) s)
    | .receiver, _ => .fault .noRule
  | .awaitingAck =>
    match s.blk.ses.role, s.blk.ses.mode with
    | .sender, .sw => resendOldest (.corruptFrame sub) s
    | .sender, .gbn | .receiver, _ => .fault .noRule
  | .listen | .closed =>
    match s.blk.ses.role with
    | .sender => .fault .noRule
    | .receiver => .next (raise (.corruptFrame sub) s)

section
variable {s : State} {buf : List Byte} {sub : CorruptSub}

theorem hasFlag_of_corrupt (hdec : dec s buf = .corrupt sub) (f : Byte) : (dec s buf).hasFlag f = false := by
  rw [hdec]; rfl

theorem senderCause_of_corrupt (hdec : dec s buf = .corrupt sub) : (dec s buf).senderCause = .corruptFrame sub := by
  rw [hdec]; rfl

theorem rxFrame_inactive (h : s.blk.st.isInactive = true) : rxFrame buf s = .next s :=
  (if_pos h).trans (guarded_of _ _ h)

theorem execSwsAckBad_of_cond {c : BitVec 3} (h : condSwsAckBad c buf s = true) :
    execSwsAckBad c buf s = resendOldest (dec s buf).senderCause s := if_pos h

/-- A ready stop-and-wait sender does not decode (44_stop_and_wait R206). -/
theorem rxSws_ready (hr : s.blk.ses.role = .sender) (hm : s.blk.ses.mode = .sw) (hst : s.blk.st = .ready) :
    rxSws buf s = .next s := by
  have hrow : rxSws buf s = execSwsRxReady 0 buf s := by rw [rxSws, hst]
  refine hrow.trans (guarded_of _ _ ?_)
  simp [condSwsRxReady, runsAs_iff, inState_iff, hr, hm, hst]

/-- A waiting stop-and-wait sender answers a rejected buffer with a resend (44_stop_and_wait R204). -/
theorem rxSws_corrupt (hr : s.blk.ses.role = .sender) (hm : s.blk.ses.mode = .sw) (hst : s.blk.st = .awaitingAck)
    (hdec : dec s buf = .corrupt sub) : rxSws buf s = resendOldest (.corruptFrame sub) s := by
  have hack : awaitedAck buf s = false := by rw [awaitedAck, hasFlag_of_corrupt hdec]; rfl
  have hrow : rxSws buf s = execSwsAckBad (classOf (dec s buf)) buf s := by simp [rxSws, hst, hack]
  rw [← senderCause_of_corrupt hdec]
  refine hrow.trans (execSwsAckBad_of_cond ?_)
  simp [condSwsAckBad, runsAs_iff, inState_iff, hr, hm, hst, hack]

/-- A Go-Back-N sender records a rejected buffer (45_go_back_n R235). -/
theorem rxGbs_corrupt (hr : s.blk.ses.role = .sender) (hm : s.blk.ses.mode = .gbn) (hst : s.blk.st = .ready)
    (hdec : dec s buf = .corrupt sub) : rxGbs buf s = .next (raise (.corruptFrame sub) s) := by
  have hflag := hasFlag_of_corrupt hdec flagAck
  have hrow : rxGbs buf s = execGbsDiscard (classOf (dec s buf)) buf s := by simp [rxGbs, hst, hflag]
  rw [← senderCause_of_corrupt hdec]
  refine hrow.trans (guarded_of _ _ ?_)
  simp [condGbsDiscard, runsAs_iff, inState_iff, hr, hm, hst, hflag]

/-- No rule of a sender stands in a receiver's state. -/
theorem rxFrame_sender_noRule (hr : s.blk.ses.role = .sender) (hst : s.blk.st = .listen ∨ s.blk.st = .closed) :
    rxFrame buf s = .fault .noRule := by
  rcases hst with hst | hst <;> cases hm : s.blk.ses.mode <;> simp [rxFrame, Ctl.isInactive, rxSws, rxGbs, hr, hm, hst]

/-- No rule of a receiver stands in a sender's state. -/
theorem rxFrame_receiver_noRule (hr : s.blk.ses.role = .receiver)
    (hst : s.blk.st = .ready ∨ s.blk.st = .awaitingAck) : rxFrame buf s = .fault .noRule := by
  rcases hst with hst | hst <;> cases hm : s.blk.ses.mode <;> simp [rxFrame, Ctl.isInactive, rxSwr, rxGbr, hr, hm, hst]

/-- The outcome of a rejected buffer is a function of the sub-cause and the state. -/
theorem rxFrame_rejected (hdec : dec s buf = .corrupt sub) : rxFrame buf s = rejected sub s := by
  unfold rejected
  cases hst : s.blk.st with
  | idle | done | aborted => exact rxFrame_inactive (by rw [hst]; rfl)
  | ready =>
    cases hr : s.blk.ses.role with
    | receiver => exact rxFrame_receiver_noRule hr (.inl hst)
    | sender =>
      rw [rxFrame_active (by rw [hst]; rfl), hr]
      cases hm : s.blk.ses.mode with
      | sw => exact rxSws_ready hr hm hst
      | gbn => exact rxGbs_corrupt hr hm hst hdec
  | awaitingAck =>
    cases hr : s.blk.ses.role with
    | receiver => exact rxFrame_receiver_noRule hr (.inr hst)
    | sender =>
      rw [rxFrame_active (by rw [hst]; rfl), hr]
      cases hm : s.blk.ses.mode with
      | sw => exact rxSws_corrupt hr hm hst hdec
      | gbn => simp only [rxGbs, hst]
  | listen | closed =>
    have hans : s.blk.st = .listen ∨ s.blk.st = .closed := by simp [hst]
    cases hr : s.blk.ses.role with
    | sender => exact rxFrame_sender_noRule hr hans
    | receiver => exact rxFrame_corrupt hr hans hdec

end

/-- The sub-cause is diagnostic: without the diagnostic fields no outcome shows it (60_exceptions R262). -/
theorem rejected_eraseDiag (sub sub' : CorruptSub) (s : State) :
    viewOut eraseDiag (rejected sub s) = viewOut eraseDiag (rejected sub' s) := by
  have hresend : viewOut eraseDiag (resendOldest (.corruptFrame sub) s)
      = viewOut eraseDiag (resendOldest (.corruptFrame sub') s) := by
    unfold resendOldest
    cases s.blk.rtx <;> rfl
  unfold rejected
  cases s.blk.st with
  | idle | done | aborted => rfl
  | ready => cases s.blk.ses.role <;> cases s.blk.ses.mode <;> rfl
  | awaitingAck =>
    cases s.blk.ses.role with
    | receiver => rfl
    | sender =>
      cases s.blk.ses.mode with
      | sw => exact hresend
      | gbn => rfl
  | listen | closed => cases s.blk.ses.role <;> rfl

/-- Settles O57: what a rejected buffer does is `rejected` of its sub-cause. -/
theorem noPartialTrust : Obligations.NoPartialTrust := by
  intro s buf₁ buf₂ sub₁ sub₂ h₁ h₂
  rw [exec_frameWord, exec_frameWord, rxFrame_rejected h₁, rxFrame_rejected h₂]
  exact ⟨rejected_eraseDiag sub₁ sub₂ s, congrArg (rejected · s)⟩

end Sys2Proof.Proofs
end

section
/-! # The Timeout Manager (O10, O11, O12, O14)

The tick and what an armed timer reads as time passes (`expired_armed_iff`), the result of each of the unit's
operations, and the quiet that follows a retransmission: both TIMEOUT rows leave the oldest entry freshly armed
(`timeout_row_effect`). -/

namespace Sys2Proof.Proofs

open Sys2Proof Sys2Proof.Machine Sys2Proof.Safety

/-! ## The tick (42_timeout_manager R161) -/

/-- The counter counts modulo 2^32. -/
theorem tick_toNat (now : BitVec 32) : (now + 1#32).toNat = (now.toNat + 1) % 2 ^ 32 :=
  BitVec.toNat_add now 1#32

/-- Settles O10: both are `tickNow`. -/
theorem tickAdvancesTime : Obligations.TickAdvancesTime :=
  ⟨rfl, fun _ _ => rfl, fun s _ _ => ⟨s.blk.now + 1#32, tick_toNat _, rfl, rfl⟩⟩

/-! ## Arming and expiry (42_timeout_manager R162, R163) -/

theorem expired_iff (now d : BitVec 32) : expired now d = true ↔ (now - d).toNat < 2 ^ 31 := decide_eq_true_iff

/-- A timer armed at `now` for `t` ticks, read `k` ticks later. -/
theorem expired_armed_iff (now : BitVec 32) {t : BitVec 32} {k : Nat} (ht : t.toNat ≤ 2 ^ 31 - 1) (hk : k < 2 ^ 32) :
    expired (now + BitVec.ofNat 32 k) (now + t) = true ↔ t.toNat ≤ k ∧ k < t.toNat + 2 ^ 31 := by
  have hdiff : now + BitVec.ofNat 32 k - (now + t) = BitVec.ofNat 32 k - t := add_sub_add_left_eq_sub _ _ now
  rw [expired_iff, hdiff, BitVec.toNat_sub, BitVec.toNat_ofNat]
  omega

/-- An entry of the queue armed in place. -/
theorem armAt_eq_set {s : State} {i : Nat} {e : Entry} (h : s.blk.rtx[i]? = some e) :
    armAt s i = s.blk.rtx.set i (armEntry s e) := by
  simp [armAt, List.modify_eq_set_getElem?, h]

theorem exec_tmArm_queued {s : State} {i : Half} {e : Entry} (h : s.blk.rtx[i.toNat]? = some e) :
    exec (.tmArm (.queued i)) s = .next (setRtx (s.blk.rtx.set i.toNat (armEntry s e)) s) := by
  have hlt : i.toNat < s.blk.rtx.length := (List.getElem?_eq_some_iff.mp h).1
  rw [← armAt_eq_set h]
  exact if_pos hlt

/-- Settles O11: the interval is `expired_armed_iff`. -/
theorem armedTimerRuns : Obligations.ArmedTimerRuns :=
  ⟨fun _ => ⟨_, rfl⟩, fun _ _ _ h => exec_tmArm_queued h, fun _ _ _ => rfl, expired_iff,
    fun now _ _ _ ht hk => expired_armed_iff now ht hk⟩

/-! ## Cancelling and the expiry condition (42_timeout_manager R164 to R166) -/

theorem tmExpired_nil {s : State} (h : s.blk.rtx = []) : tmExpired s = false := by
  rw [tmExpired, h]

theorem tmExpired_cons {s : State} {e : Entry} {rest : List Entry} (h : s.blk.rtx = e :: rest) :
    tmExpired s = expired s.blk.now e.deadline := by
  rw [tmExpired, h]

theorem exec_tmExpired (s : State) : exec .tmExpired s = .next (setUnitOut (.bool (tmExpired s)) s) := rfl

theorem exec_tmCancel_inRange {s : State} {k : Half} (hk : 1 ≤ k.toNat ∧ k.toNat ≤ s.blk.rtx.length) :
    exec (.tmCancel k) s = .next (setRtx (s.blk.rtx.drop k.toNat) s) := if_pos hk

/-- A count outside the queue's range lets a free number of the oldest entries leave (log 10). -/
theorem exec_tmCancel_outOfRange {s : State} {k : Half} (hk : k.toNat = 0 ∨ s.blk.rtx.length < k.toNat) : ∃ n : Nat,
    exec (.tmCancel k) s = .next (drawFree (setRtx (s.blk.rtx.drop n) s)) :=
  ⟨_, if_neg (by omega)⟩

/-- Settles O12, from the result of each operation. -/
theorem cancelAndExpiry : Obligations.CancelAndExpiry := by
  refine ⟨fun _ => rfl, rfl, rfl, fun s k h₁ hk => exec_tmCancel_inRange ⟨h₁, hk⟩,
    fun s k hk => exec_tmCancel_outOfRange hk, fun _ => rfl, fun _ _ => tmExpired_nil rfl, fun s h => ?_,
    fun s e rest h => ?_⟩
  · rw [exec_tmExpired, tmExpired_nil h]; rfl
  · rw [exec_tmExpired, tmExpired_cons h]; rfl

/-! ## After a retransmission (42_timeout_manager R168) -/

theorem timeoutEnabled_iff (s : State) : timeoutEnabled s = true ↔
    s.blk.ses.role = .sender ∧ (s.blk.st = .ready ∨ s.blk.st = .awaitingAck) ∧ tmExpired s = true := by
  simp only [timeoutEnabled, Bool.and_eq_true, Bool.or_eq_true, decide_eq_true_eq, and_assoc]

/-- The oldest entry, if there is one, has just been armed for `t` ticks. -/
def HeadArmed (t : BitVec 32) (k : Block) : Prop := ∀ e ∈ k.rtx.head?, e.deadline = k.now + t

/-- A TIMEOUT row runs where TIMEOUT is enabled; time stands still and the oldest entry is armed again
(44_stop_and_wait R205, 45_go_back_n R236). -/
theorem timeout_row_effect {s t : State} {i : Instr} (hi : i = .swsTimeout ∨ i = .gbsTimeout)
    (h : exec i s = .next t) : timeoutEnabled s = true ∧ HeadArmed s.blk.ses.t t.blk := by
  have hc : enabled i s = true := enabled_of_next h
  rcases hi with rfl | rfl
  · have hcond : condSwsTimeout s = true := hc
    simp only [condSwsTimeout, Bool.and_eq_true, runsAs_iff, inState_iff] at hcond
    obtain ⟨⟨⟨hrole, -⟩, hst⟩, hexp⟩ := hcond
    have hon : timeoutEnabled s = true := (timeoutEnabled_iff s).mpr ⟨hrole, .inr hst, hexp⟩
    refine ⟨hon, ?_⟩
    cases hq : s.blk.rtx with
    | nil => exact absurd hq (rtx_ne_nil_of_timeoutEnabled hon)
    | cons e rest =>
      have hrow : exec .swsTimeout s = .next (resendHead e rest (raise .timeout s)) := by
        simp only [exec, execSwsTimeout, hq]
        exact if_pos hc
      rw [hrow] at h
      cases h
      simp [HeadArmed, resendHead_eq]
  · obtain ⟨hcond, rfl⟩ := guarded_next h
    simp only [condGbsTimeout, Bool.and_eq_true, runsAs_iff, inState_iff] at hcond
    obtain ⟨⟨⟨hrole, -⟩, hst⟩, hexp⟩ := hcond
    refine ⟨(timeoutEnabled_iff s).mpr ⟨hrole, .inl hst, hexp⟩, ?_⟩
    cases hq : s.blk.rtx <;> simp [HeadArmed, resendWindow_eq, armEntry, armDeadline, hq]

/-- Only the oldest timer can enable TIMEOUT (42_timeout_manager R166, R167). -/
theorem timeoutEnabled_of_head_not_expired {s : State}
    (h : ∀ e ∈ s.blk.rtx.head?, expired s.blk.now e.deadline = false) : timeoutEnabled s = false := by
  refine Bool.eq_false_iff.mpr fun hon => ?_
  obtain ⟨-, -, hexp⟩ := (timeoutEnabled_iff s).mp hon
  cases hq : s.blk.rtx with
  | nil => exact rtx_ne_nil_of_timeoutEnabled hon hq
  | cons e rest =>
    rw [tmExpired_cons hq, h e (by rw [hq]; rfl)] at hexp
    cases hexp

/-- With its oldest entry just armed an endpoint has TIMEOUT off until `t` ticks have passed. -/
theorem timeoutEnabled_of_headArmed {s : State} {t : BitVec 32} {k : Nat} (h : HeadArmed t s.blk)
    (ht : t.toNat ≤ 2 ^ 31 - 1) (hk : k < t.toNat) :
    timeoutEnabled { s with blk := { s.blk with now := s.blk.now + BitVec.ofNat 32 k } } = false := by
  refine timeoutEnabled_of_head_not_expired fun e he => Bool.eq_false_iff.mpr fun hexp => ?_
  rw [h e he, expired_armed_iff s.blk.now ht (by omega)] at hexp
  omega

/-- Settles O14: a TIMEOUT row arms the oldest entry for `T` ticks. -/
theorem retransmissionRearms : Obligations.RetransmissionRearms := by
  intro s t i hi h _ ht
  obtain ⟨hon, harmed⟩ := timeout_row_effect hi h
  exact ⟨hon, fun k hk => timeoutEnabled_of_headArmed harmed ht hk⟩

end Sys2Proof.Proofs
end

section
/-! # One event, one row (O13, O39)

Every event falls in a row of its dispatch word: the row's condition holds and the operation at the port is the row
(`FallsIn`, one lemma per event). A row whose condition holds completes in a state that meets the block invariant
(`row_completes`), so no operation stops there (`exec_completes`). -/

namespace Sys2Proof.Proofs

open Sys2Proof Sys2Proof.Machine Sys2Proof.Safety

/-! ## Where a row stops -/

theorem guarded_of_false {c : Bool} (t : State) (h : c = false) : guarded c t = .fault .conditionFalse := by
  rw [h]; rfl

/-- An operation without its condition is a row, and is stuck (43_session_control R191; log 7). -/
theorem exec_of_not_enabled {i : Instr} {s : State} (h : enabled i s = false) :
    exec i s = .fault .conditionFalse := by
  cases i with
  | frameData | frameAck | frameFin | frameIllegal => cases h
  | cmdOpen | cmdTxPush | cmdTxClose | cmdAbort | cmdReserved => cases h
  | csum16 | csum16v | crc16 | crc16v | encode | decode => cases h
  | tmTick | tmArm | tmCancel | tmCancelAll | tmExpired | evTick => cases h
  | swsAckBad | swsTimeout => exact if_neg (Bool.eq_false_iff.mp h)
  | _ => exact guarded_of_false _ h

/-- A sender awaiting an acknowledgment has a segment to send again (10_state R46). -/
theorem resendOldest_completes {s : State} (c : Cause) (hk : BlockInv s.hw s.blk) (hst : s.blk.st = .awaitingAck) :
    ∃ t, resendOldest c s = .next t := by
  obtain ⟨-, -, -, e, hq, -⟩ := awaiting_rtx hk hst
  exact ⟨_, by rw [resendOldest, hq]⟩

theorem execSwsTimeout_of_cond {s : State} (h : condSwsTimeout s = true) :
    execSwsTimeout s = resendOldest .timeout s := by
  rw [execSwsTimeout, if_pos h, resendOldest]
  cases s.blk.rtx with
  | nil => rfl
  | cons e rest => exact congrArg Host.Outcome.next (setRetxSeen_resendHead_timeout e rest s).symm

/-- A row completes where its condition holds; only a resend asks more of the state than the condition says. -/
theorem row_completes {i : Instr} {s : State} (hk : BlockInv s.hw s.blk) (hrow : isRow i = true)
    (he : enabled i s = true) : ∃ t, exec i s = .next t := by
  cases i with
  | frameData | frameAck | frameFin | frameIllegal => cases hrow
  | cmdOpen | cmdTxPush | cmdTxClose | cmdAbort | cmdReserved => cases hrow
  | csum16 | csum16v | crc16 | crc16v | encode | decode => cases hrow
  | tmTick | tmArm | tmCancel | tmCancelAll | tmExpired => cases hrow
  | swsAckBad c buf =>
    have hc : condSwsAckBad c buf s = true := he
    have hst : s.blk.st = .awaitingAck := by
      simp only [condSwsAckBad, Bool.and_eq_true, inState_iff] at hc
      exact hc.1.1.2
    obtain ⟨t, ht⟩ := resendOldest_completes (dec s buf).senderCause hk hst
    exact ⟨t, (execSwsAckBad_of_cond hc).trans ht⟩
  | swsTimeout =>
    have hc : condSwsTimeout s = true := he
    have hst : s.blk.st = .awaitingAck := by
      simp only [condSwsTimeout, Bool.and_eq_true, inState_iff] at hc
      exact hc.1.2
    obtain ⟨t, ht⟩ := resendOldest_completes .timeout hk hst
    exact ⟨t, (execSwsTimeout_of_cond hc).trans ht⟩
  | evTick => exact ⟨_, rfl⟩
  | _ => exact ⟨_, guarded_of _ _ he⟩

/-! ## The row an event falls in -/

/-- The event with this dispatch word and these operands falls in a row that does `o`: the row stands for the word and
its condition holds (30_encoding R103). -/
def FallsIn (s : State) (w : Byte) (ops : List Byte) (o : Out) : Prop :=
  ∃ i, StandsFor .dw (w :: ops) i ∧ enabled i s = true ∧ exec i s = o

theorem mem_dwRows_of_standsFor {w : Byte} {ops : List Byte} {i : Instr} (h : StandsFor .dw (w :: ops) i) :
    i ∈ dwRows w ops := by
  obtain ⟨hwf, hword⟩ := h
  have hrows := encoded i hwf
  rw [hword] at hrows
  obtain ⟨w', ops', heq, hi⟩ := hrows
  cases heq
  exact hi

/-- Of rows that exclude each other, the one whose condition holds is the only one. -/
theorem filter_of_exclusive {s : State} {i : Instr} {rows : List Instr} (hx : Exclusive s rows) (hi : i ∈ rows)
    (he : enabled i s = true) : rows.filter (fun j => enabled j s) = [i] := by
  obtain ⟨before, after, rfl⟩ := List.append_of_mem hi
  obtain ⟨-, hcons, hbefore⟩ := List.pairwise_append.mp hx
  have off_before : before.filter (fun j => enabled j s) = [] := by
    refine List.filter_eq_nil_iff.mpr fun j hj hon => ?_
    rw [hbefore j hj i List.mem_cons_self hon] at he
    cases he
  have off_after : after.filter (fun j => enabled j s) = [] := by
    refine List.filter_eq_nil_iff.mpr fun j hj hon => ?_
    rw [(List.pairwise_cons.mp hcons).1 j hj he] at hon
    cases hon
  have keep : (i :: after).filter (fun j => enabled j s) = [i] := by
    rw [List.filter_cons_of_pos (p := fun j => enabled j s) he, off_after]
  rw [List.filter_append, off_before, keep, List.nil_append]

section
variable {s : State} {w : Byte} {ops : List Byte} {o : Out}

theorem FallsIn.completes (h : FallsIn s w ops o) (hk : BlockInv s.hw s.blk) : ∃ t, o = .next t := by
  obtain ⟨i, ⟨-, hword⟩, he, rfl⟩ := h
  exact row_completes hk (by simp [isRow, hword]) he

/-- The row an event falls in is its only one: the rows of a word exclude each other. -/
theorem FallsIn.oneRow (h : FallsIn s w ops o) (hk : BlockInv s.hw s.blk) : OneRow s w ops o := by
  obtain ⟨t, ht⟩ := h.completes hk
  obtain ⟨i, hi, he, rfl⟩ := h
  exact ⟨i, t, filter_of_exclusive (dwRows_exclusive w ops s) (mem_dwRows_of_standsFor hi) he, ht, ht⟩

end

/-! ## The dispatch word formed now -/

section
variable {s : State}

theorem roleNow_sender (h : s.blk.ses.role = .sender) : roleNow s = 0#1 := by rw [roleNow, h]; rfl
theorem roleNow_receiver (h : s.blk.ses.role = .receiver) : roleNow s = 1#1 := by rw [roleNow, h]; rfl
theorem modeNow_sw (h : s.blk.ses.mode = .sw) : modeNow s = 0#1 := by rw [modeNow, h]; rfl
theorem modeNow_gbn (h : s.blk.ses.mode = .gbn) : modeNow s = 1#1 := by rw [modeNow, h]; rfl

end

/-! ## Commands (43_session_control R182, R183 to R189) -/

/-- CMD.OPEN examines the control state, then the configuration. -/
theorem exec_cmdOpen (r m : BitVec 1) (s : State) : exec .cmdOpen s =
    if s.blk.st.isActive then exec (.evOpenBadstate r m) s
    else if cfgLegal s.hw s.blk.cfg then exec (.evOpen r m) s
    else exec (.evOpenBadcfg r m) s := rfl

theorem exec_cmdAbort (r m : BitVec 1) (cause : Byte) (s : State) : exec (.cmdAbort cause) s =
    if condAbort s then exec (.evAbort r m cause) s else exec (.evAbortBadstate r m cause) s := rfl

/-- The command that `tx_admit` decides on for this kind (43_session_control R189). -/
def txCommand (kind : TxKind) (p : List Byte) : Instr :=
  match kind with
  | .push => .cmdTxPush p
  | .close => .cmdTxClose

/-- What an admitted command does is the row of the session's mode. -/
def txRow (kind : TxKind) (mode : Mode) (p : List Byte) : Instr :=
  match kind, mode with
  | .push, .sw => .swsPush p
  | .push, .gbn => .gbsPush p
  | .close, .sw => .swsClose
  | .close, .gbn => .gbsClose

section
variable {s : State} {kind : TxKind} {p : List Byte}

theorem exec_txCommand_refused (r m : BitVec 1) (hp : kind = .close → p = []) (h : txAdmit kind p s ≠ .ok) :
    exec (txCommand kind p) s = exec (.txRefuse r m kind p) s := by
  cases kind with
  | push => exact if_pos h
  | close => obtain rfl := hp rfl; exact if_pos h

theorem exec_txCommand_admitted (hp : kind = .close → p = []) (h : txAdmit kind p s = .ok) :
    exec (txCommand kind p) s = exec (txRow kind s.blk.ses.mode p) s := by
  cases kind with
  | push => refine (if_neg (not_not.mpr h)).trans ?_; cases s.blk.ses.mode <;> rfl
  | close =>
    obtain rfl := hp rfl
    refine (if_neg (not_not.mpr h)).trans ?_
    cases s.blk.ses.mode <;> rfl

/-- An admitted command meets the condition of its row. -/
theorem txRow_enabled (hp : kind = .close → p = []) (h : txAdmit kind p s = .ok) :
    enabled (txRow kind s.blk.ses.mode p) s = true := by
  obtain ⟨hr, -⟩ := (txAdmit_ok_iff _ _ _).mp h
  cases kind with
  | push => cases hm : s.blk.ses.mode <;> simp [txRow, enabled, condSwsPush, condGbsPush, runsAs_iff, hr, hm, h]
  | close =>
    obtain rfl := hp rfl
    cases hm : s.blk.ses.mode <;> simp [txRow, enabled, condSwsClose, condGbsClose, runsAs_iff, hr, hm, h]

theorem fallsIn_tx (hp : kind = .close → p = []) :
    FallsIn s (dwByte (roleNow s) (modeNow s) (txEv kind) 0) p (exec (txCommand kind p) s) := by
  by_cases h : txAdmit kind p s = .ok
  · refine ⟨txRow kind s.blk.ses.mode p, ?_, txRow_enabled hp h, (exec_txCommand_admitted hp h).symm⟩
    rw [roleNow_sender ((txAdmit_ok_iff _ _ _).mp h).1]
    cases hm : s.blk.ses.mode with
    | sw =>
      rw [modeNow_sw hm]
      cases kind with
      | push => exact ⟨rfl, rfl⟩
      | close => obtain rfl := hp rfl; exact ⟨rfl, rfl⟩
    | gbn =>
      rw [modeNow_gbn hm]
      cases kind with
      | push => exact ⟨rfl, rfl⟩
      | close => obtain rfl := hp rfl; exact ⟨rfl, rfl⟩
  · refine ⟨.txRefuse (roleNow s) (modeNow s) kind p, ⟨decide_eq_true ?_, rfl⟩, decide_eq_true h,
      (exec_txCommand_refused _ _ hp h).symm⟩
    cases kind with
    | push => exact .inl rfl
    | close => exact .inr (hp rfl)

end

theorem fallsIn_open (s : State) : FallsIn s (dwByte (roleNow s) (modeNow s) 1 0) [] (exec .cmdOpen s) := by
  rw [exec_cmdOpen (roleNow s) (modeNow s)]
  cases hact : s.blk.st.isActive with
  | true => exact ⟨.evOpenBadstate (roleNow s) (modeNow s), ⟨rfl, rfl⟩, hact, rfl⟩
  | false =>
    cases hlegal : cfgLegal s.hw s.blk.cfg with
    | true =>
      exact ⟨.evOpen (roleNow s) (modeNow s), ⟨rfl, rfl⟩, by simp [enabled, condOpen, hact, hlegal], rfl⟩
    | false =>
      exact ⟨.evOpenBadcfg (roleNow s) (modeNow s), ⟨rfl, rfl⟩, by simp [enabled, condOpenBadcfg, hact, hlegal], rfl⟩

theorem fallsIn_abort (cause : Byte) (s : State) :
    FallsIn s (dwByte (roleNow s) (modeNow s) 4 0) [cause] (exec (.cmdAbort cause) s) := by
  rw [exec_cmdAbort (roleNow s) (modeNow s)]
  cases hc : condAbort s with
  | true => exact ⟨.evAbort (roleNow s) (modeNow s) cause, ⟨rfl, rfl⟩, hc, rfl⟩
  | false => exact ⟨.evAbortBadstate (roleNow s) (modeNow s) cause, ⟨rfl, rfl⟩, by simp [enabled, hc], rfl⟩

theorem fallsIn_tick (s : State) : FallsIn s (dwByte (roleNow s) (modeNow s) 7 0) [] (exec .tmTick s) :=
  ⟨.evTick (roleNow s) (modeNow s), ⟨rfl, rfl⟩, rfl, rfl⟩

/-! ## TIMEOUT (42_timeout_manager R167) -/

/-- The row of a TIMEOUT in the session's mode. -/
def timeoutOp (s : State) : Instr :=
  match s.blk.ses.mode with
  | .sw => .swsTimeout
  | .gbn => .gbsTimeout

/-- Where TIMEOUT is enabled the control state is the one its row of the mode requires (10_state R46, 45_go_back_n
R230). -/
theorem timeoutOp_row {s : State} (hk : BlockInv s.hw s.blk) (hon : timeoutEnabled s = true) :
    StandsFor .dw (timeoutWord s) (timeoutOp s) ∧ enabled (timeoutOp s) s = true := by
  obtain ⟨hr, hst, hexp⟩ := (timeoutEnabled_iff s).mp hon
  rw [timeoutWord, roleNow_sender hr, timeoutOp]
  cases hm : s.blk.ses.mode with
  | sw =>
    have hawait : s.blk.st = .awaitingAck := hst.resolve_left fun hready =>
      rtx_ne_nil_of_timeoutEnabled hon ((hk.sws hr hm).ready hready).1
    rw [modeNow_sw hm]
    exact ⟨⟨rfl, rfl⟩, by simp [enabled, condSwsTimeout, runsAs, inState, hr, hm, hawait, hexp]⟩
  | gbn =>
    have hready : s.blk.st = .ready := hst.resolve_right fun hawait => by
      rw [hk.role.awaiting hawait] at hm; cases hm
    rw [modeNow_gbn hm]
    exact ⟨⟨rfl, rfl⟩, by simp [enabled, condGbsTimeout, runsAs, inState, hr, hm, hready, hexp]⟩

theorem fallsIn_timeout {s : State} (hk : BlockInv s.hw s.blk) (hon : timeoutEnabled s = true) :
    FallsIn s (dwByte (roleNow s) (modeNow s) 6 0) [] (exec (timeoutOp s) s) := by
  obtain ⟨hword, he⟩ := timeoutOp_row hk hon
  exact ⟨timeoutOp s, hword, he, rfl⟩

theorem timeoutEnabled_of_row {i : Instr} {s : State} (hi : i = .swsTimeout ∨ i = .gbsTimeout)
    (he : enabled i s = true) : timeoutEnabled s = true := by
  rcases hi with rfl | rfl <;>
    simp only [enabled, condSwsTimeout, condGbsTimeout, Bool.and_eq_true, runsAs_iff, inState_iff] at he <;>
    obtain ⟨⟨⟨hr, -⟩, hst⟩, hexp⟩ := he
  · exact (timeoutEnabled_iff s).mpr ⟨hr, .inr hst, hexp⟩
  · exact (timeoutEnabled_iff s).mpr ⟨hr, .inl hst, hexp⟩

/-- A TIMEOUT row runs only where the event is enabled, so without it the word has no row. -/
theorem timeout_rows_off {s : State} (hoff : timeoutEnabled s = false) :
    (dwRows (dwByte (roleNow s) (modeNow s) 6 0) []).filter (fun i => enabled i s) = [] := by
  refine List.filter_eq_nil_iff.mpr fun i hi he => ?_
  have hrow : i = .swsTimeout ∨ i = .gbsTimeout := by
    rw [dwRows_timeout] at hi
    split_ifs at hi
    · exact .inl (List.mem_singleton.mp hi)
    · exact .inr (List.mem_singleton.mp hi)
    · cases hi
  rw [timeoutEnabled_of_row hrow he] at hoff
  cases hoff

/-! ## RX_FRAME -/

section
variable {s : State} {buf : List Byte}

/-- DECODE answers a sub-cause or a segment with one of the three flags (41_segment_framer R143). -/
theorem dec_cases (s : State) (buf : List Byte) :
    (∃ sub, dec s buf = .corrupt sub) ∨ (∃ seq p, dec s buf = .segment seq flagData p) ∨
      (∃ seq p, dec s buf = .segment seq flagAck p) ∨ ∃ seq p, dec s buf = .segment seq flagFin p := by
  cases hdec : dec s buf with
  | corrupt sub => exact .inl ⟨sub, rfl⟩
  | segment seq flag p =>
    obtain ⟨hpre, -⟩ := decodeSeg_eq_segment_iff.mp hdec
    obtain ⟨-, hflag, -⟩ := encodePre_iff.mp hpre
    have flag_cases : flag = flagData ∨ flag = flagAck ∨ flag = flagFin := by
      simp only [← BitVec.toNat_inj, flagData, flagAck, flagFin, BitVec.toNat_ofNat]
      omega
    rcases flag_cases with rfl | rfl | rfl
    · exact .inr (.inl ⟨seq, p, rfl⟩)
    · exact .inr (.inr (.inl ⟨seq, p, rfl⟩))
    · exact .inr (.inr (.inr ⟨seq, p, rfl⟩))

theorem classOf_legal (s : State) (buf : List Byte) : legalClass (classOf (dec s buf)) = true := by
  rcases dec_cases s buf with ⟨_, h⟩ | ⟨_, _, h⟩ | ⟨_, _, h⟩ | ⟨_, _, h⟩ <;> rw [h] <;> rfl

/-- The class of a buffer is 1 exactly for an ACK (30_encoding R103). -/
theorem classOf_eq_one_iff (s : State) (buf : List Byte) :
    classOf (dec s buf) = 1 ↔ (dec s buf).hasFlag flagAck = true := by
  rcases dec_cases s buf with ⟨_, h⟩ | ⟨_, _, h⟩ | ⟨_, _, h⟩ | ⟨_, _, h⟩ <;> rw [h] <;>
    simp [classOf, Decoded.hasFlag, flagData, flagAck, flagFin]

/-- A sender that decodes is in READY or AWAITING_ACK. -/
theorem sender_states (hk : BlockInv s.hw s.blk) (hr : s.blk.ses.role = .sender) (hact : s.blk.st.isInactive = false) :
    s.blk.st = .ready ∨ s.blk.st = .awaitingAck := by
  have not_receiver (h : s.blk.st = .listen ∨ s.blk.st = .closed) : False := by
    rw [hk.role.receiver h] at hr; cases hr
  cases hst : s.blk.st with
  | ready => exact .inl rfl
  | awaitingAck => exact .inr rfl
  | idle | done | aborted => rw [hst] at hact; cases hact
  | listen => exact (not_receiver (.inl hst)).elim
  | closed => exact (not_receiver (.inr hst)).elim

/-- A receiver that decodes is in LISTEN or CLOSED. -/
theorem receiver_states (hk : BlockInv s.hw s.blk) (hr : s.blk.ses.role = .receiver)
    (hact : s.blk.st.isInactive = false) : s.blk.st = .listen ∨ s.blk.st = .closed := by
  have not_sender (h : s.blk.st = .ready ∨ s.blk.st = .awaitingAck ∨ s.blk.st = .done) : False := by
    rw [hk.role.sender h] at hr; cases hr
  cases hst : s.blk.st with
  | listen => exact .inl rfl
  | closed => exact .inr rfl
  | idle | done | aborted => rw [hst] at hact; cases hact
  | ready => exact (not_sender (.inl hst)).elim
  | awaitingAck => exact (not_sender (.inr (.inl hst))).elim

/-- A buffer at a waiting stop-and-wait sender: the awaited acknowledgment, or anything else. -/
theorem fallsIn_rxSws (hr : s.blk.ses.role = .sender) (hm : s.blk.ses.mode = .sw) (hst : s.blk.st = .awaitingAck) :
    FallsIn s (dwByte 0 0 5 (classOf (dec s buf))) buf (rxSws buf s) := by
  cases hack : awaitedAck buf s with
  | true =>
    have hcls : classOf (dec s buf) = 1 := by
      rw [classOf_eq_one_iff]; exact (Bool.and_eq_true_iff.mp hack).1
    rw [hcls]
    exact ⟨.swsAckOk buf, ⟨rfl, rfl⟩, by simp [enabled, condSwsAckOk, runsAs_iff, inState_iff, hr, hm, hst, hack],
      by simp [exec, rxSws, hst, hack]⟩
  | false =>
    exact ⟨.swsAckBad (classOf (dec s buf)) buf, ⟨classOf_legal s buf, rfl⟩,
      by simp [enabled, condSwsAckBad, runsAs_iff, inState_iff, hr, hm, hst, hack], by simp [exec, rxSws, hst, hack]⟩

/-- A buffer at a Go-Back-N sender: a new acknowledgment, an old one, or no acknowledgment. -/
theorem fallsIn_rxGbs (hr : s.blk.ses.role = .sender) (hm : s.blk.ses.mode = .gbn) (hst : s.blk.st = .ready) :
    FallsIn s (dwByte 0 1 5 (classOf (dec s buf))) buf (rxGbs buf s) := by
  have hcls := classOf_eq_one_iff s buf
  cases hack : (dec s buf).hasFlag flagAck with
  | true =>
    rw [hcls.mpr hack]
    cases hnew : ackIsNew (dec s buf).seqNum s with
    | true =>
      exact ⟨.gbsAck buf, ⟨rfl, rfl⟩, by simp [enabled, condGbsAck, runsAs_iff, inState_iff, hr, hm, hst, hack, hnew],
        by simp [exec, rxGbs, hst, hack, hnew]⟩
    | false =>
      exact ⟨.gbsAckStale buf, ⟨rfl, rfl⟩,
        by simp [enabled, condGbsAckStale, runsAs_iff, inState_iff, hr, hm, hst, hack, hnew],
        by simp [exec, rxGbs, hst, hack, hnew]⟩
  | false =>
    have hne : classOf (dec s buf) ≠ 1 := fun h => by rw [hcls.mp h] at hack; cases hack
    exact ⟨.gbsDiscard (classOf (dec s buf)) buf,
      ⟨Bool.and_eq_true_iff.mpr ⟨classOf_legal s buf, decide_eq_true hne⟩, rfl⟩,
      by simp [enabled, condGbsDiscard, runsAs_iff, inState_iff, hr, hm, hst, hack], by simp [exec, rxGbs, hst, hack]⟩

theorem receiving_active (hst : s.blk.st = .listen ∨ s.blk.st = .closed) : s.blk.st.isInactive = false := by
  rcases hst with h | h <;> rw [h] <;> rfl

/-- A rejected buffer at a receiver (44_stop_and_wait R216, 45_go_back_n R246). -/
theorem fallsIn_receiver_corrupt {sub : CorruptSub} (hr : s.blk.ses.role = .receiver)
    (hst : s.blk.st = .listen ∨ s.blk.st = .closed) (hdec : dec s buf = .corrupt sub) :
    FallsIn s (dwByte 1 (modeNow s) 5 7) buf (rxFrame buf s) := by
  have hcor : (dec s buf).isCorrupt = true := by rw [hdec]; rfl
  rw [rxFrame_active (receiving_active hst), hr]
  cases hm : s.blk.ses.mode with
  | sw =>
    rw [modeNow_sw hm]
    exact ⟨.swrCorrupt buf, ⟨rfl, rfl⟩,
      by simp [enabled, condSwrCorrupt, runsAs, answering, inState, hr, hm, hst, hcor],
      by rcases hst with h | h <;> simp [exec, rxSwr, h, hcor]⟩
  | gbn =>
    rw [modeNow_gbn hm]
    exact ⟨.gbrCorrupt buf, ⟨rfl, rfl⟩,
      by simp [enabled, condGbrCorrupt, runsAs, answering, inState, hr, hm, hst, hcor],
      by rcases hst with h | h <;> simp [exec, rxGbr, h, hcor]⟩

/-- An ACK at a receiver (44_stop_and_wait R217, 45_go_back_n R247). -/
theorem fallsIn_receiver_ack {seq : Half} {p : List Byte} (hr : s.blk.ses.role = .receiver)
    (hst : s.blk.st = .listen ∨ s.blk.st = .closed) (hdec : dec s buf = .segment seq flagAck p) :
    FallsIn s (dwByte 1 (modeNow s) 5 1) buf (rxFrame buf s) := by
  have hcor : (dec s buf).isCorrupt = false := by rw [hdec]; rfl
  have hack : (dec s buf).hasFlag flagAck = true := by rw [hdec]; rfl
  rw [rxFrame_active (receiving_active hst), hr]
  cases hm : s.blk.ses.mode with
  | sw =>
    rw [modeNow_sw hm]
    exact ⟨.swrAckIgn buf, ⟨rfl, rfl⟩,
      by simp [enabled, condSwrAckIgn, runsAs, answering, inState, hr, hm, hst, hack],
      by rcases hst with h | h <;> simp [exec, rxSwr, h, hcor, hack]⟩
  | gbn =>
    rw [modeNow_gbn hm]
    exact ⟨.gbrAckIgn buf, ⟨rfl, rfl⟩,
      by simp [enabled, condGbrAckIgn, runsAs, answering, inState, hr, hm, hst, hack],
      by rcases hst with h | h <;> simp [exec, rxGbr, h, hcor, hack]⟩

/-- A segment that a receiver can accept: the number it expects, another, or the receiver has closed. -/
theorem fallsIn_segment {w : Byte} {ok other reack : Instr} {o : Out} (hst : s.blk.st = .listen ∨ s.blk.st = .closed)
    (hword : StandsFor .dw (w :: buf) ok ∧ StandsFor .dw (w :: buf) other ∧ StandsFor .dw (w :: buf) reack)
    (hok : s.blk.st = .listen → (dec s buf).hasSeq s.blk.expected = true → enabled ok s = true ∧ exec ok s = o)
    (hother : s.blk.st = .listen → (dec s buf).hasSeq s.blk.expected = false →
      enabled other s = true ∧ exec other s = o)
    (hreack : s.blk.st = .closed → enabled reack s = true ∧ exec reack s = o) : FallsIn s w buf o := by
  obtain ⟨wok, wother, wreack⟩ := hword
  rcases hst with hst | hst
  · cases hseq : (dec s buf).hasSeq s.blk.expected with
    | true => exact ⟨ok, wok, hok hst hseq⟩
    | false => exact ⟨other, wother, hother hst hseq⟩
  · exact ⟨reack, wreack, hreack hst⟩

/-- A DATA at a receiver (44_stop_and_wait R211, R212, R215, 45_go_back_n R241, R242, R245). -/
theorem fallsIn_receiver_data {seq : Half} {p : List Byte} (hr : s.blk.ses.role = .receiver)
    (hst : s.blk.st = .listen ∨ s.blk.st = .closed) (hdec : dec s buf = .segment seq flagData p) :
    FallsIn s (dwByte 1 (modeNow s) 5 0) buf (rxFrame buf s) := by
  have hcor : (dec s buf).isCorrupt = false := by rw [hdec]; rfl
  have hack : (dec s buf).hasFlag flagAck = false := by rw [hdec]; rfl
  have hdata : (dec s buf).hasFlag flagData = true := by rw [hdec]; rfl
  rw [rxFrame_active (receiving_active hst), hr]
  cases hm : s.blk.ses.mode with
  | sw =>
    rw [modeNow_sw hm]
    exact fallsIn_segment (ok := .swrDataOk buf) (other := .swrDataDup buf)
      (reack := .swrClosedReack 0 buf) hst ⟨⟨rfl, rfl⟩, ⟨rfl, rfl⟩, ⟨rfl, rfl⟩⟩
      (fun h hseq => ⟨accepts_iff.mpr ⟨hr, hm, h, hdata, hseq⟩, by simp [exec, rxSwr, h, hcor, hack, hdata, hseq]⟩)
      (fun h hseq => ⟨by simp [enabled, condSwrDataDup, runsAs, inState, hr, hm, h, hdata, hseq],
        by simp [exec, rxSwr, h, hcor, hack, hdata, hseq]⟩)
      (fun h => ⟨by simp [enabled, condSwrClosedReack, reackFlag, runsAs, inState, hr, hm, h, hdata],
        by simp [exec, rxSwr, h, hcor, hack, hdata]⟩)
  | gbn =>
    rw [modeNow_gbn hm]
    exact fallsIn_segment (ok := .gbrDataOk buf) (other := .gbrDataOoo buf)
      (reack := .gbrClosedReack 0 buf) hst ⟨⟨rfl, rfl⟩, ⟨rfl, rfl⟩, ⟨rfl, rfl⟩⟩
      (fun h hseq => ⟨accepts_iff.mpr ⟨hr, hm, h, hdata, hseq⟩, by simp [exec, rxGbr, h, hcor, hack, hdata, hseq]⟩)
      (fun h hseq => ⟨by simp [enabled, condGbrDataOoo, runsAs, inState, hr, hm, h, hdata, hseq],
        by simp [exec, rxGbr, h, hcor, hack, hdata, hseq]⟩)
      (fun h => ⟨by simp [enabled, condGbrClosedReack, reackFlag, runsAs, inState, hr, hm, h, hdata],
        by simp [exec, rxGbr, h, hcor, hack, hdata]⟩)

/-- A FIN at a receiver (44_stop_and_wait R213, R214, R215, 45_go_back_n R243, R244, R245). -/
theorem fallsIn_receiver_fin {seq : Half} {p : List Byte} (hr : s.blk.ses.role = .receiver)
    (hst : s.blk.st = .listen ∨ s.blk.st = .closed) (hdec : dec s buf = .segment seq flagFin p) :
    FallsIn s (dwByte 1 (modeNow s) 5 2) buf (rxFrame buf s) := by
  have hcor : (dec s buf).isCorrupt = false := by rw [hdec]; rfl
  have hack : (dec s buf).hasFlag flagAck = false := by rw [hdec]; rfl
  have hdata : (dec s buf).hasFlag flagData = false := by rw [hdec]; rfl
  have hfin : (dec s buf).hasFlag flagFin = true := by rw [hdec]; rfl
  rw [rxFrame_active (receiving_active hst), hr]
  cases hm : s.blk.ses.mode with
  | sw =>
    rw [modeNow_sw hm]
    exact fallsIn_segment (ok := .swrFinOk buf) (other := .swrFinDup buf)
      (reack := .swrClosedReack 1 buf) hst ⟨⟨rfl, rfl⟩, ⟨rfl, rfl⟩, ⟨rfl, rfl⟩⟩
      (fun h hseq => ⟨accepts_iff.mpr ⟨hr, hm, h, hfin, hseq⟩, by simp [exec, rxSwr, h, hcor, hack, hdata, hseq]⟩)
      (fun h hseq => ⟨by simp [enabled, condSwrFinDup, runsAs, inState, hr, hm, h, hfin, hseq],
        by simp [exec, rxSwr, h, hcor, hack, hdata, hseq]⟩)
      (fun h => ⟨by simp [enabled, condSwrClosedReack, reackFlag, runsAs, inState, hr, hm, h, hfin],
        by simp [exec, rxSwr, h, hcor, hack, hdata]⟩)
  | gbn =>
    rw [modeNow_gbn hm]
    exact fallsIn_segment (ok := .gbrFinOk buf) (other := .gbrFinOoo buf)
      (reack := .gbrClosedReack 1 buf) hst ⟨⟨rfl, rfl⟩, ⟨rfl, rfl⟩, ⟨rfl, rfl⟩⟩
      (fun h hseq => ⟨accepts_iff.mpr ⟨hr, hm, h, hfin, hseq⟩, by simp [exec, rxGbr, h, hcor, hack, hdata, hseq]⟩)
      (fun h hseq => ⟨by simp [enabled, condGbrFinOoo, runsAs, inState, hr, hm, h, hfin, hseq],
        by simp [exec, rxGbr, h, hcor, hack, hdata, hseq]⟩)
      (fun h => ⟨by simp [enabled, condGbrClosedReack, reackFlag, runsAs, inState, hr, hm, h, hfin],
        by simp [exec, rxGbr, h, hcor, hack, hdata]⟩)

theorem fallsIn_receiver (hr : s.blk.ses.role = .receiver) (hst : s.blk.st = .listen ∨ s.blk.st = .closed) :
    FallsIn s (dwByte 1 (modeNow s) 5 (classOf (dec s buf))) buf (rxFrame buf s) := by
  rcases dec_cases s buf with ⟨sub, h⟩ | ⟨seq, p, h⟩ | ⟨seq, p, h⟩ | ⟨seq, p, h⟩
  · rw [show classOf (dec s buf) = 7 by rw [h]; rfl]; exact fallsIn_receiver_corrupt hr hst h
  · rw [show classOf (dec s buf) = 0 by rw [h]; rfl]; exact fallsIn_receiver_data hr hst h
  · rw [show classOf (dec s buf) = 1 by rw [h]; rfl]; exact fallsIn_receiver_ack hr hst h
  · rw [show classOf (dec s buf) = 2 by rw [h]; rfl]; exact fallsIn_receiver_fin hr hst h

/-- A ready stop-and-wait sender drops a buffer without decoding it (44_stop_and_wait R206), as an inactive endpoint
does (43_session_control R190); their dispatch words carry any class (log 15). -/
def DropsUndecoded (s : State) : Prop :=
  s.blk.st.isInactive = true ∨ (s.blk.ses.role = .sender ∧ s.blk.ses.mode = .sw ∧ s.blk.st = .ready)

theorem fallsIn_dropped {c : BitVec 3} (hdrop : DropsUndecoded s) (hc : legalClass c = true) :
    FallsIn s (dwByte (roleNow s) (modeNow s) 5 c) buf (rxFrame buf s) := by
  rcases hdrop with hin | ⟨hr, hm, hst⟩
  · exact ⟨.rxInactive (roleNow s) (modeNow s) c buf, ⟨hc, rfl⟩, hin, (if_pos hin).symm⟩
  · rw [roleNow_sender hr, modeNow_sw hm, rxFrame_active (by rw [hst]; rfl), hr, hm]
    exact ⟨.swsRxReady c buf, ⟨hc, rfl⟩, by simp [enabled, condSwsRxReady, runsAs, inState, hr, hm, hst],
      by rw [rxSws, hst]; rfl⟩

theorem fallsIn_decoded (hk : BlockInv s.hw s.blk) (hdrop : ¬ DropsUndecoded s) :
    FallsIn s (dwByte (roleNow s) (modeNow s) 5 (classOf (dec s buf))) buf (rxFrame buf s) := by
  obtain ⟨hin, hready⟩ := not_or.mp hdrop
  have hact : s.blk.st.isInactive = false := Bool.eq_false_iff.mpr hin
  cases hr : s.blk.ses.role with
  | sender =>
    have hst := sender_states hk hr hact
    rw [roleNow_sender hr, rxFrame_active hact, hr]
    cases hm : s.blk.ses.mode with
    | sw =>
      rw [modeNow_sw hm]
      exact fallsIn_rxSws hr hm (hst.resolve_left fun h => hready ⟨hr, hm, h⟩)
    | gbn =>
      rw [modeNow_gbn hm]
      exact fallsIn_rxGbs hr hm (hst.resolve_right fun h => by rw [hk.role.awaiting h] at hm; cases hm)
  | receiver =>
    rw [roleNow_receiver hr]
    exact fallsIn_receiver hr (receiver_states hk hr hact)

theorem rxFrame_completes (hk : BlockInv s.hw s.blk) : ∃ t, rxFrame buf s = .next t := by
  by_cases hdrop : DropsUndecoded s
  · exact (fallsIn_dropped (c := 0) hdrop rfl).completes hk
  · exact (fallsIn_decoded hk hdrop).completes hk

end

/-! ## The statements -/

/-- Settles O39: each event falls in a row, and the rows of a word exclude each other. -/
theorem dispatchIsTotal : Obligations.DispatchIsTotal := by
  unfold Obligations.DispatchIsTotal
  intro s hk
  refine ⟨fun buf c hc => ?_, (fallsIn_open s).oneRow hk, fun p => (fallsIn_tx (kind := .push) nofun).oneRow hk,
    (fallsIn_tx (kind := .close) fun _ => rfl).oneRow hk, fun cause => (fallsIn_abort cause s).oneRow hk,
    (fallsIn_tick s).oneRow hk, ?_⟩
  · rw [exec_frameWord]
    split at hc
    next hdrop => exact (fallsIn_dropped hdrop hc).oneRow hk
    next hdrop => rw [hc]; exact (fallsIn_decoded hk hdrop).oneRow hk
  · split
    next hon => exact (fallsIn_timeout hk hon).oneRow hk
    next hoff => exact timeout_rows_off (Bool.eq_false_iff.mpr hoff)

/-- In a state that meets the block invariant nothing stops but a row without its condition and TM_ARM of an index
beyond the queue. -/
theorem exec_completes {i : Instr} {s : State} (hk : BlockInv s.hw s.blk) (he : enabled i s = true)
    (harm : ∀ j : Half, i = .tmArm (.queued j) → j.toNat < s.blk.rtx.length) : ∃ t, exec i s = .next t := by
  cases i with
  | frameData | frameAck | frameFin | frameIllegal => exact rxFrame_completes hk
  | cmdOpen => exact (fallsIn_open s).completes hk
  | cmdTxPush p => exact (fallsIn_tx (kind := .push) (p := p) nofun).completes hk
  | cmdTxClose => exact (fallsIn_tx (kind := .close) fun _ => rfl).completes hk
  | cmdAbort cause => exact (fallsIn_abort cause s).completes hk
  | tmArm x =>
    cases x with
    | queued j => exact ⟨_, if_pos (harm j rfl)⟩
    | fresh => exact ⟨_, rfl⟩
  | tmCancel k =>
    obtain ⟨n, d, h, -⟩ := execTmCancel_next k s
    exact ⟨_, h⟩
  | cmdReserved | csum16 | csum16v | crc16 | crc16v | encode | decode => exact ⟨_, rfl⟩
  | tmTick | tmCancelAll | tmExpired => exact ⟨_, rfl⟩
  | _ => exact row_completes hk rfl he

/-- Settles O13: a row stops without its condition only, and the operations at a port run a row. -/
theorem whereOperationsStop : Obligations.WhereOperationsStop := by
  unfold Obligations.WhereOperationsStop
  exact ⟨fun s i h => if_neg (by omega), fun s i => exec_of_not_enabled, fun s i => exec_completes⟩

end Sys2Proof.Proofs
end

section
/-! # Session control (O15, O16, O17, O19, O21, O56)

What the commands OPEN, ABORT, TX_PUSH and TX_CLOSE do in the states their rules name, and what an endpoint without a
session does with a buffer. -/

namespace Sys2Proof.Proofs

open Sys2Proof Sys2Proof.Machine Sys2Proof.Safety

/-! ## OPEN (43_session_control R183 to R185) -/

/-- The check of the configuration registers is the legality of 10_state R24 to R27. -/
theorem cfgLegal_iff {hw : Config.Params} {c : CfgRegs} : cfgLegal hw c = true ↔ CfgLegal hw c := by
  refine ⟨cfgLegal_of_check, fun ⟨hmss, htimeout, hgbn⟩ => ?_⟩
  simp only [cfgLegal, Bool.and_eq_true, Bool.or_eq_true, decide_eq_true_eq]
  refine ⟨⟨⟨by omega, hmss.2⟩, ?_⟩, ?_⟩
  · cases hr : c.role with
    | receiver => exact .inl rfl
    | sender => have ht := htimeout hr; exact .inr ⟨by omega, ht.2⟩
  · cases hm : c.mode with
    | sw => exact .inl rfl
    | gbn => have hw := hgbn hm; exact .inr ⟨⟨⟨by omega, hw.2.1⟩, hw.2.2.1⟩, hw.2.2.2⟩

theorem latch_w (c : CfgRegs) : (latch c).w = if c.mode = .sw then 1#16 else c.w := by
  cases hm : c.mode <;> simp [latch, hm]

theorem latch_m (c : CfgRegs) : (latch c).m = if c.mode = .sw then 2#17 else c.seqmod := by
  cases hm : c.mode <;> simp [latch, hm]

theorem openState_eq (r : Role) : openState r = if r = .sender then .ready else .listen := by
  cases r <;> rfl

/-- The states in which OPEN examines the configuration. -/
theorem not_active {c : Ctl} (h : c = .idle ∨ c = .done ∨ c = .closed ∨ c = .aborted) : c.isActive = false := by
  rcases h with h | h | h | h <;> rw [h] <;> rfl

/-- Settles O15: the row latches the registers; the command is the row where no session is active and the registers are
legal. -/
theorem openAccepted : Obligations.OpenAccepted := by
  unfold Obligations.OpenAccepted
  intro s r m hst hlegal t
  have hact := not_active hst
  have hcfg := cfgLegal_iff.mpr hlegal
  have hblk : { s with blk := openedBlock s.blk } = t := by
    simp only [t, ← latch_w, ← latch_m, ← openState_eq]
    rfl
  have hrow : exec (.evOpen r m) s = .next t := by
    rw [← hblk]
    exact guarded_of _ _ ((condOpen_iff s).mpr ⟨hact, hcfg⟩)
  refine ⟨rfl, rfl, hrow, ?_⟩
  rw [exec_cmdOpen r m, hact, hcfg]
  exact hrow

/-- A defect of the configuration registers (43_session_control R184). -/
def CfgDefect (hw : Config.Params) (c : CfgRegs) : Prop :=
  c.mss = 0 ∨ hw.mssMax.toNat < c.mss.toNat
    ∨ (c.role = .sender ∧ (c.timeout = 0 ∨ 2 ^ 31 - 1 < c.timeout.toNat))
    ∨ (c.mode = .gbn ∧ (c.w = 0 ∨ hw.wMax.toNat < c.w.toNat ∨ c.seqmod.toNat ≤ c.w.toNat ∨ 65536 < c.seqmod.toNat))

theorem cfgLegal_of_defect {hw : Config.Params} {c : CfgRegs} (h : CfgDefect hw c) : cfgLegal hw c = false := by
  refine Bool.eq_false_iff.mpr fun hc => ?_
  obtain ⟨hmss, htimeout, hgbn⟩ := cfgLegal_iff.mp hc
  rcases h with h | h | ⟨hr, h⟩ | ⟨hm, h⟩
  · rw [h] at hmss; exact absurd hmss.1 (by decide)
  · omega
  · have ht := htimeout hr
    rcases h with h | h
    · rw [h] at ht; exact absurd ht.1 (by decide)
    · omega
  · have hw := hgbn hm
    rcases h with h | h | h | h
    · rw [h] at hw; exact absurd hw.1 (by decide)
    all_goals omega

/-- Settles O16: each defect fails the check, and an active session is refused before the check. -/
theorem openRefused : Obligations.OpenRefused := by
  unfold Obligations.OpenRefused
  constructor
  · intro s r m hst hdefect
    have hact := not_active hst
    have hcfg : cfgLegal s.hw s.blk.cfg = false := cfgLegal_of_defect hdefect
    have hrow : exec (.evOpenBadcfg r m) s = .next (setCmdErr .badCfg s) :=
      guarded_of _ _ (by simp [condOpenBadcfg, hact, hcfg])
    refine ⟨hrow, ?_⟩
    rw [exec_cmdOpen r m, hact, hcfg]
    exact hrow
  · intro s r m hst
    have hact : s.blk.st.isActive = true := by rcases hst with h | h | h <;> rw [h] <;> rfl
    have hrow : exec (.evOpenBadstate r m) s = .next (setCmdErr .badState s) := guarded_of _ _ hact
    refine ⟨hrow, ?_⟩
    rw [exec_cmdOpen r m, hact]
    exact hrow

/-! ## TX_PUSH and TX_CLOSE (43_session_control R189) -/

section
variable {s : State} {kind : TxKind} {p : List Byte}

theorem txAdmit_badState (hready : s.blk.st ≠ .ready) (hawait : s.blk.st ≠ .awaitingAck) :
    txAdmit kind p s = .badState := if_pos (.inr ⟨hready, hawait⟩)

theorem exec_txRefuse (r m : BitVec 1) (h : txAdmit kind p s ≠ .ok) :
    exec (.txRefuse r m kind p) s = .next (setCmdErr (txAdmit kind p s) s) :=
  guarded_of _ _ (decide_eq_true h)

/-- A command that `tx_admit` refuses changes the command result only. -/
theorem exec_txCommand_of_refused (hp : kind = .close → p = []) (h : txAdmit kind p s ≠ .ok) :
    exec (txCommand kind p) s = .next (setCmdErr (txAdmit kind p s) s) :=
  (exec_txCommand_refused 0 0 hp h).trans (exec_txRefuse 0 0 h)

/-- Outside a sender's active states a data command is refused with BADSTATE. -/
theorem exec_txCommand_badState (hp : kind = .close → p = []) (hready : s.blk.st ≠ .ready)
    (hawait : s.blk.st ≠ .awaitingAck) : exec (txCommand kind p) s = .next (setCmdErr .badState s) := by
  have hadm : txAdmit kind p s = .badState := txAdmit_badState hready hawait
  have h := exec_txCommand_of_refused hp (by rw [hadm]; nofun)
  rwa [hadm] at h

end

/-- Settles O19: `tx_admit` is the chain of checks, and its refusal is the row's and the command's. -/
theorem admissionOrder : Obligations.AdmissionOrder := by
  unfold Obligations.AdmissionOrder
  intro s kind p r m e hp he
  have hadm : txAdmit kind p s = e := by
    rw [he]
    simp only [txAdmit, not_or, gt_iff_lt, ge_iff_le, ne_eq]
  subst hadm
  exact ⟨rfl, fun hne => ⟨exec_txRefuse r m hne, exec_txCommand_of_refused hp hne⟩⟩

/-! ## Buffers that are dropped (43_session_control R190, 44_stop_and_wait R206) -/

/-- Settles O21: neither an inactive endpoint nor a ready stop-and-wait sender decodes the buffer. -/
theorem buffersDropped : Obligations.BuffersDropped := by
  unfold Obligations.BuffersDropped
  constructor
  · intro s r m c buf hst
    have hin : s.blk.st.isInactive = true := by rcases hst with h | h | h <;> rw [h] <;> rfl
    exact ⟨rfl, guarded_of _ _ hin, (exec_frameWord buf s).trans (rxFrame_inactive hin)⟩
  · intro s c buf hr hm hst
    have hword : dwByte 0 0 5 c = 5#5 ++ c := by revert c; decide
    have hbuf : rxFrame buf s = .next s := by
      rw [rxFrame_active (by rw [hst]; rfl), hr, hm]
      exact rxSws_ready hr hm hst
    exact ⟨by rw [← hword]; rfl, guarded_of _ _ (by simp [condSwsRxReady, runsAs, inState, hr, hm, hst]),
      (exec_frameWord buf s).trans hbuf⟩

/-! ## ABORT (43_session_control R186) -/

theorem condAbort_iff (s : State) : condAbort s = true ↔ s.blk.st ≠ .idle ∧ s.blk.st ≠ .aborted := by
  simp [condAbort]

/-- The teardown's writes in one update; SessionAborted sets no sticky flag (60_exceptions R262, R269). -/
theorem tearDown_eq (cause : Byte) (s : State) : tearDown cause s = { s with blk := { s.blk with
    rtx := [], st := .aborted, abortCause := cause, lastCause := .sessionAborted, cmdErr := .ok } } := by
  simp [tearDown, raise, setCmdErr, setAbortCause, setSt, cancelAll, setRtx, Cause.isCorrupt]

/-- Settles O17: the row is the teardown, and an aborted endpoint with an empty queue does nothing but refuse. -/
theorem abortTearsDown : Obligations.AbortTearsDown := by
  unfold Obligations.AbortTearsDown
  intro s r m cause hidle haborted t
  have hc : condAbort s = true := (condAbort_iff s).mpr ⟨hidle, haborted⟩
  have hrow : exec (.evAbort r m cause) s = .next t := (guarded_of _ _ hc).trans (by rw [tearDown_eq])
  have hcmd : exec (.cmdAbort cause) s = .next t := by rw [exec_cmdAbort r m, hc]; exact hrow
  exact ⟨rfl, rfl, rfl, hrow, hcmd, (timeout_off_of_rtx_nil (s := t) rfl).2,
    fun buf => (exec_frameWord buf t).trans (rxFrame_inactive rfl),
    fun p => exec_txCommand_badState (kind := .push) nofun nofun nofun,
    exec_txCommand_badState (kind := .close) (fun _ => rfl) nofun nofun⟩

/-! ## After an abort (60_exceptions R269) -/

/-- With nothing outstanding in ABORTED, no row but OPEN's leaves the state or puts anything out. -/
theorem rowEffect_aborted {i : Instr} {s t : State} (hst : s.blk.st = .aborted) (hq : s.blk.rtx = [])
    (hopen : isOpen i = false) (h : RowEffect s i t) :
    t.blk.st = .aborted ∧ t.blk.rtx = [] ∧ t.env.out = s.env.out ∧ t.blk.abortCause = s.blk.abortCause := by
  have not_admitted (kind : TxKind) (p : List Byte) : txAdmit kind p s = .badState :=
    txAdmit_badState (by simp [hst]) (by simp [hst])
  cases h with
  | unchanged | result _ | refused _ | raised _ | ticked _ => exact ⟨hst, hq, rfl, rfl⟩
  | armed j => exact ⟨hst, by simp [armAt, hq], rfl, rfl⟩
  | cancelled n d hi => exact ⟨hst, by simp [hq], rfl, rfl⟩
  | opened hi hc => rw [hi] at hopen; cases hopen
  | tornDown r m cause hc => exact absurd hst ((condAbort_iff s).mp hc).2
  | swsPushed p hc => simp [condSwsPush, not_admitted] at hc
  | swsClosed hc => simp [condSwsClose, not_admitted] at hc
  | gbsPushed p hc => simp [condGbsPush, not_admitted] at hc
  | gbsClosed hc => simp [condGbsClose, not_admitted] at hc
  | swsAcked buf hc => simp [condSwsAckOk, inState, hst] at hc
  | gbsAcked buf hc => simp [condGbsAck, inState, hst] at hc
  | swsResent c e rest hm hawait hq' => rw [hst] at hawait; cases hawait
  | gbsResent c hm hready => rw [hst] at hready; cases hready
  | acceptedData buf hi hr hlisten hf hseq => rw [hst] at hlisten; cases hlisten
  | acceptedFin buf hi hr hlisten hf hseq => rw [hst] at hlisten; cases hlisten
  | reAcked c hr hans => rw [hst] at hans; rcases hans with h | h <;> cases h

/-- Settles O56, by what a row of the operation's event can do in ABORTED. -/
theorem abortedStaysSilent : Obligations.AbortedStaysSilent := by
  unfold Obligations.AbortedStaysSilent
  intro s t i hst hq hopen h
  obtain ⟨j, heff, hj⟩ := exec_effect h
  have hjopen : isOpen j = false := by
    rcases hj with rfl | ⟨-, he⟩
    · exact hopen
    · rw [Bool.eq_false_iff, ne_eq, isOpen_iff_event] at hopen ⊢
      rwa [he]
  obtain ⟨hst', hq', hout, hcause⟩ := rowEffect_aborted hst hq hjopen heff
  exact ⟨hst', hq', hout, (timeout_off_of_rtx_nil hq').2, hcause⟩

end Sys2Proof.Proofs
end

section
/-! # Arbitration (O18, O41, O51)

What arbitration takes from what is offered, and that the step which takes it runs its operation (`step_of_taken`).
Every operation that can be taken completes in a state that meets the block invariant, so the machine goes on. -/

namespace Sys2Proof.Proofs

open Sys2Proof Sys2Proof.Machine Sys2Proof.Safety

/-! ## What is taken (43_session_control R181) -/

section
variable {s : State}

theorem arbitrate_abort {c : HostCmd} {rest : List HostCmd} (h : s.env.cmds = c :: rest) (hc : c.code = 0x04) :
    arbitrate s = .command c rest := by
  rw [arbitrate, h]
  exact if_pos (decide_eq_true hc)

theorem arbitrate_not_abort (h : ∀ c rest, s.env.cmds = c :: rest → c.code ≠ 0x04) : arbitrate s = takeOther s := by
  unfold arbitrate
  split
  next c rest hq => exact if_neg fun ha => h c rest hq (of_decide_eq_true ha)
  next => rfl

theorem takeOther_frame {buf : Datagram} {rest : List Datagram} (h : s.env.chIn = buf :: rest) :
    takeOther s = .frame buf rest := by
  rw [takeOther, h]

theorem takeOther_timeout (hin : s.env.chIn = []) (hon : timeoutEnabled s = true) : takeOther s = .timeout := by
  rw [takeOther, hin]
  exact if_pos hon

theorem takeOther_command {c : HostCmd} {rest : List HostCmd} (hin : s.env.chIn = []) (hoff : timeoutEnabled s = false)
    (h : s.env.cmds = c :: rest) : takeOther s = .command c rest := by
  simp only [takeOther, hin, hoff, h]
  rfl

theorem takeOther_nothing (hin : s.env.chIn = []) (hoff : timeoutEnabled s = false) (h : s.env.cmds = []) :
    takeOther s = .nothing := by
  simp only [takeOther, hin, hoff, h]
  rfl

/-- TIMEOUT is taken only where it is enabled. -/
theorem takeOther_timeout_enabled (h : takeOther s = .timeout) : timeoutEnabled s = true := by
  unfold takeOther at h
  split at h
  · cases h
  · split at h
    next hon => exact hon
    next => split at h <;> cases h

theorem arbitrate_timeout_enabled (h : arbitrate s = .timeout) : timeoutEnabled s = true := by
  unfold arbitrate at h
  split at h
  · split at h
    · cases h
    · exact takeOther_timeout_enabled h
  · exact takeOther_timeout_enabled h

theorem offered_timeout_enabled {src : EventSource} (h : offered src s = .timeout) : timeoutEnabled s = true := by
  cases src with
  | command => simp only [offered] at h; split at h <;> cases h
  | frame => simp only [offered] at h; split at h <;> cases h
  | timeout =>
    simp only [offered] at h
    split at h
    next hon => exact hon
    next => cases h

end

/-! ## The operation of what is taken -/

/-- The operation a command at the port is (30_encoding R101). -/
def commandOp (c : HostCmd) : Instr :=
  if c.code = 0x01 then .cmdOpen
  else if c.code = 0x02 then .cmdTxPush c.payload
  else if c.code = 0x03 then .cmdTxClose
  else if c.code = 0x04 then .cmdAbort c.cause
  else .cmdReserved c.code

theorem decodeCmdWord_cmdWord (c : HostCmd) : decodeCmdWord (cmdWord c) = .ok (commandOp c) := by
  by_cases h1 : c.code = 1#8
  · simp [decodeCmdWord, cmdWord, commandOp, h1]
  by_cases h2 : c.code = 2#8
  · simp [decodeCmdWord, cmdWord, commandOp, h2]
  by_cases h3 : c.code = 3#8
  · simp [decodeCmdWord, cmdWord, commandOp, h3]
  by_cases h4 : c.code = 4#8
  · simp [decodeCmdWord, cmdWord, commandOp, h4]
  · simp [decodeCmdWord, cmdWord, commandOp, h1, h2, h3, h4]

/-- What an endpoint in state `u` does with what it takes. -/
def runTaken (k : Taken) (u : State) : Out :=
  match k with
  | .command c rest => exec (commandOp c) { u with env := { u.env with cmds := rest } }
  | .frame buf rest => exec (decodeFrameWord buf) { u with env := { u.env with chIn := rest } }
  | .timeout => exec (timeoutOp u) u
  | .nothing => .next u

section
variable {s u : State} {k : Taken}

theorem timeoutOp_congr (h : u.blk = s.blk) : timeoutOp u = timeoutOp s := by
  rw [timeoutOp, timeoutOp, h]

/-- A step that takes `k` up runs its operation. -/
theorem step_of_taken (hk : BlockInv u.hw u.blk) (hon : k = .timeout → timeoutEnabled u = true)
    (hf : fetch s = fetchTaken k u) : step s = runTaken k u := by
  cases k with
  | command c rest =>
    exact step_of_word hf ((decodeIn_of_not_dw (f := .cmd) _ nofun).trans (decodeCmdWord_cmdWord c))
  | frame buf rest => exact step_of_word hf (decodeIn_of_not_dw (f := .frame) _ nofun)
  | timeout =>
    obtain ⟨hword, he⟩ := timeoutOp_row hk (hon rfl)
    exact step_of_word hf (decodeIn_row (mem_dwRows_of_standsFor hword) he)
  | nothing => exact step_of_still hf

theorem runTaken_completes (hk : BlockInv u.hw u.blk) (hon : k = .timeout → timeoutEnabled u = true) :
    ∃ t, runTaken k u = .next t := by
  cases k with
  | command c rest =>
    refine exec_completes (s := { u with env := { u.env with cmds := rest } }) hk ?_ ?_
    · unfold commandOp; split_ifs <;> rfl
    · unfold commandOp; split_ifs <;> nofun
  | frame buf rest =>
    obtain ⟨t, ht⟩ := rxFrame_completes (s := { u with env := { u.env with chIn := rest } }) (buf := buf) hk
    exact ⟨t, (exec_frameWord buf _).trans ht⟩
  | timeout => exact (fallsIn_timeout hk (hon rfl)).completes hk
  | nothing => exact ⟨u, rfl⟩

end

/-! ## A step of the endpoint -/

/-- The endpoint serves next, in state `u`: its agenda is empty, or says so. -/
def Serves (s u : State) : Prop :=
  (s.env.agenda = [] ∧ u = s) ∨ ∃ rest, s.env.agenda = .serve :: rest ∧ u = withAgenda rest s

section
variable {s u : State} {rest : List Moment}

theorem Serves.blk (h : Serves s u) : u.blk = s.blk := by
  rcases h with ⟨-, rfl⟩ | ⟨_, -, rfl⟩ <;> rfl

/-- A serving endpoint runs what arbitration takes. -/
theorem step_of_serves (hk : BlockInv s.hw s.blk) (h : Serves s u) : step s = runTaken (arbitrate s) u := by
  rcases h with ⟨ha, rfl⟩ | ⟨rest, ha, rfl⟩
  · exact step_of_taken hk arbitrate_timeout_enabled (by rw [fetch, ha]; rfl)
  · exact step_of_taken (u := withAgenda rest s) hk arbitrate_timeout_enabled (fetch_cons ha)

/-- An endpoint whose environment picks a source runs what that source offers. -/
theorem step_of_pick {src : EventSource} (hk : BlockInv s.hw s.blk) (h : s.env.agenda = .pick src :: rest) :
    step s = runTaken (offered src s) (withAgenda rest s) :=
  step_of_taken (u := withAgenda rest s) hk offered_timeout_enabled (fetch_cons h)

/-- A tick is not arbitrated (43_session_control R180). -/
theorem step_of_tick (h : s.env.agenda = .tick :: rest) : step s = .next (tickNow (withAgenda rest s)) := by
  have hrow : StandsFor .dw (tickWord s) (.evTick (roleNow s) (modeNow s)) := ⟨rfl, rfl⟩
  exact step_of_word (u := withAgenda rest s) (fetch_cons h) (decodeIn_row (mem_dwRows_of_standsFor hrow) rfl)

end

/-! ## The statements -/

/-- Settles O51: what is taken completes, and every other moment is complete when it is taken up. -/
theorem stepCompletes : Obligations.StepCompletes := by
  unfold Obligations.StepCompletes
  intro s ⟨hk, hports⟩
  have serves {u : State} (hu : u.hw = s.hw) (h : Serves s u) : ∃ t, step s = .next t := by
    rw [step_of_serves hk h]
    refine runTaken_completes (by rw [hu, h.blk]; exact hk) fun ht => ?_
    have hon := arbitrate_timeout_enabled ht
    rwa [timeoutEnabled, tmExpired, h.blk]
  cases ha : s.env.agenda with
  | nil => exact serves rfl (.inl ⟨ha, rfl⟩)
  | cons m rest =>
    cases m with
    | arrive | command | csrRead | csrWrite | reset => exact ⟨_, step_of_still (fetch_cons ha)⟩
    | tick => exact ⟨_, step_of_tick ha⟩
    | serve => exact serves (u := withAgenda rest s) rfl (.inr ⟨rest, ha, rfl⟩)
    | pick src =>
      rw [step_of_pick hk ha]
      exact runTaken_completes (u := withAgenda rest s) hk offered_timeout_enabled
    | issue f bs => exact absurd (ha ▸ List.mem_cons_self) (hports f bs)

/-- Settles O41: the step runs what is taken, and arbitration takes by the chain of R181. -/
theorem arbitrationOrder : Obligations.ArbitrationOrder := by
  unfold Obligations.ArbitrationOrder
  intro commandOp' timeoutOp' s hk
  refine ⟨fun u hu => ?serve, fun rest ha => step_of_tick ha, fun src rest ha => ?pick⟩
  case serve =>
    have hstep : step s = runTaken (arbitrate s) u := step_of_serves hk hu
    refine ⟨fun c tl hq hc => ?_, fun buf tl hna hin => ?_, fun hna hin hon => ?_, fun c tl hin hoff hq hc => ?_,
      fun hin hoff hq => ?_⟩
    · have hop : commandOp c = .cmdAbort c.cause := by simp [commandOp, hc]
      rw [hstep, arbitrate_abort hq hc, runTaken, hop]
    · rw [hstep, arbitrate_not_abort hna, takeOther_frame hin, runTaken]
    · rw [hstep, arbitrate_not_abort hna, takeOther_timeout hin hon, runTaken, timeoutOp_congr (Serves.blk hu)]
      rfl
    · have hna : ∀ c' rest, s.env.cmds = c' :: rest → c'.code ≠ 0x04 := fun c' rest hq' => by
        rw [hq] at hq'; cases hq'; exact hc
      rw [hstep, arbitrate_not_abort hna, takeOther_command hin hoff hq]
      rfl
    · have hna : ∀ c rest, s.env.cmds = c :: rest → c.code ≠ 0x04 := fun c rest hq' => by
        rw [hq] at hq'; cases hq'
      rw [hstep, arbitrate_not_abort hna, takeOther_nothing hin hoff hq, runTaken]
  case pick =>
    have hstep := step_of_pick hk ha
    refine ⟨fun c tl hsrc hq => ?_, fun buf tl hsrc hin => ?_, fun hsrc hon => ?_, fun hcmd hframe htimeout => ?_⟩
    · subst hsrc
      rw [hstep, offered, hq]
      rfl
    · subst hsrc
      rw [hstep, offered, hin]
      rfl
    · subst hsrc
      rw [hstep, offered, if_pos hon]
      rfl
    · have hnone : offered src s = .nothing := by
        cases src with
        | command => rw [offered, hcmd rfl]
        | frame => rw [offered, hframe rfl]
        | timeout => exact if_neg (by rw [htimeout rfl]; nofun)
      rw [hstep, hnone]
      rfl

/-- A reserved code is none of the four commands' (30_encoding R101). -/
theorem reserved_ne {code k : Byte} (h : code = 0x00 ∨ 0x05 ≤ code.toNat) (hk : 1 ≤ k.toNat ∧ k.toNat ≤ 4) :
    code ≠ k := by
  rintro rfl
  rcases h with rfl | h
  · exact absurd hk.1 (by decide)
  · omega

theorem decode_reserved {code : Byte} (ops : List Byte) (h : code = 0x00 ∨ 0x05 ≤ code.toNat) :
    decode .cmd (code :: ops) = .ok (.cmdReserved code) := by
  simp [decode, decodeCmdWord, reserved_ne h (k := 1#8) (by decide), reserved_ne h (k := 2#8) (by decide),
    reserved_ne h (k := 3#8) (by decide), reserved_ne h (k := 4#8) (by decide)]

/-- Settles O18: both refusals write the command result only, and a reserved command is no ABORT to arbitration. -/
theorem refusedAbortAndReserved : Obligations.RefusedAbortAndReserved := by
  unfold Obligations.RefusedAbortAndReserved
  refine ⟨fun s r m cause hst => ?abort, fun code ops => decode_reserved ops, fun s code => rfl,
    fun s c rest hq hc => ?taken⟩
  case abort =>
    have hcond : condAbort s = false := Bool.eq_false_iff.mpr fun h => by
      obtain ⟨hidle, haborted⟩ := (condAbort_iff s).mp h
      exact hst.elim hidle haborted
    have hrow : exec (.evAbortBadstate r m cause) s = .next (setCmdErr .badState s) :=
      guarded_of _ _ (by rw [hcond]; rfl)
    refine ⟨hrow, ?_⟩
    rw [exec_cmdAbort r m, hcond]
    exact hrow
  case taken =>
    have hna : ∀ c' rest', s.env.cmds = c' :: rest' → c'.code ≠ 0x04 := fun c' rest' hq' => by
      rw [hq] at hq'; cases hq'; exact reserved_ne hc (by decide)
    rw [arbitrate_not_abort hna]
    exact ⟨decode_reserved _ hc, fun buf tl => takeOther_frame, takeOther_timeout,
      fun hin hoff => takeOther_command hin hoff hq⟩

end Sys2Proof.Proofs
end

section
/-! # Stop-and-wait (O22 to O29)

A row that runs on the word of an inbound buffer is what the buffer's arrival runs, since the rows of a word exclude
each other (`FallsIn.exec_of_next`). So each rule of the sender and the receiver is settled by its row alone: its
condition, and its effect in one update. -/

namespace Sys2Proof.Proofs

open Sys2Proof Sys2Proof.Machine Sys2Proof.Safety

/-! ## The row and the arrival (43_session_control R182) -/

/-- Row `i` with the word `w` for the buffer leads to `t`, and so does the buffer's arrival. -/
def RunsOnArrival (s : State) (w : Byte) (buf : List Byte) (i : Instr) (t : State) : Prop :=
  encode i = (.dw, w :: buf) ∧ exec i s = .next t ∧ exec (decodeFrameWord buf) s = .next t

section
variable {s t : State} {w : Byte} {buf : List Byte} {i : Instr}

/-- A row of the event's word that goes on is the row the event falls in. -/
theorem FallsIn.exec_of_next {ops : List Byte} {o : Out} (h : FallsIn s w ops o) (hi : StandsFor .dw (w :: ops) i)
    (hrow : exec i s = .next t) : o = .next t := by
  obtain ⟨j, hj, he, rfl⟩ := h
  have hrows := dwRows_exclusive w ops s
  have hsame : [j] = [i] := (filter_of_exclusive hrows (mem_dwRows_of_standsFor hj) he).symm.trans
    (filter_of_exclusive hrows (mem_dwRows_of_standsFor hi) (enabled_of_next hrow))
  cases hsame
  exact hrow

theorem FallsIn.runsOnArrival (h : FallsIn s w buf (rxFrame buf s)) (hi : StandsFor .dw (w :: buf) i)
    (hrow : exec i s = .next t) : RunsOnArrival s w buf i t :=
  ⟨hi.2, hrow, (exec_frameWord buf s).trans (h.exec_of_next hi hrow)⟩

/-- At a waiting stop-and-wait sender the row of the buffer's class decides what its arrival does. -/
theorem sws_runsOnArrival {d : Decoded} {k : BitVec 3} (hr : s.blk.ses.role = .sender) (hm : s.blk.ses.mode = .sw)
    (hst : s.blk.st = .awaitingAck) (hdec : dec s buf = d) (hk : classOf d = k) (hw : dwByte 0 0 5 k = w)
    (hi : StandsFor .dw (dwByte 0 0 5 k :: buf) i) (hrow : exec i s = .next t) : RunsOnArrival s w buf i t := by
  subst hdec hk hw
  refine FallsIn.runsOnArrival ?_ hi hrow
  rw [rxFrame_active (by rw [hst]; rfl), hr, hm]
  exact fallsIn_rxSws hr hm hst

/-- At a stop-and-wait receiver that answers the row of the buffer's class decides what its arrival does. -/
theorem swr_runsOnArrival {d : Decoded} {k : BitVec 3} (hr : s.blk.ses.role = .receiver) (hm : s.blk.ses.mode = .sw)
    (hst : s.blk.st = .listen ∨ s.blk.st = .closed) (hdec : dec s buf = d) (hk : classOf d = k)
    (hw : dwByte 1 0 5 k = w) (hi : StandsFor .dw (dwByte 1 0 5 k :: buf) i) (hrow : exec i s = .next t) :
    RunsOnArrival s w buf i t := by
  subst hdec hk hw
  have hfalls := fallsIn_receiver (buf := buf) hr hst
  rw [modeNow_sw hm] at hfalls
  exact hfalls.runsOnArrival hi hrow

end

/-! ## Sender: a segment leaves (44_stop_and_wait R201, R202) -/

section
variable {s t : State} {kind : TxKind} {p : List Byte}

/-- A ready sender with nothing outstanding and no FIN built admits a command whose payload fits. -/
theorem sws_admits (hr : s.blk.ses.role = .sender) (hw : s.blk.ses.w = 1) (hst : s.blk.st = .ready)
    (hfin : s.blk.fin = false) (hq : s.blk.rtx = []) (hlen : kind = .push → p.length ≤ s.blk.ses.mss.toNat) :
    txAdmit kind p s = .ok :=
  (txAdmit_ok_iff kind p s).mpr ⟨hr, .inl hst, hfin, hlen, by rw [hq, hw]; decide⟩

/-- An admitted command does what its stop-and-wait row does. -/
theorem exec_txCommand_sws (hm : s.blk.ses.mode = .sw) (hp : kind = .close → p = []) (hadm : txAdmit kind p s = .ok)
    (hrow : exec (txRow kind .sw p) s = .next t) : exec (txCommand kind p) s = .next t := by
  rw [exec_txCommand_admitted hp hadm, hm]
  exact hrow

end

/-- Settles O22: the command is admitted, and its row is one sent segment that is then awaited. -/
theorem swsSends : Obligations.SwsSends := by
  unfold Obligations.SwsSends
  refine ⟨?push, ?close⟩
  case push =>
    intro s p hr hm hw hst hfin hq hlen f t
    have hadm : txAdmit .push p s = .ok := sws_admits hr hw hst hfin hq fun _ => hlen
    have hrow : exec (.swsPush p) s = .next t := by
      refine (guarded_of _ _ (by simp [condSwsPush, runsAs_iff, hr, hm, hadm])).trans ?_
      rw [sendSegment_eq, hq]
      rfl
    exact ⟨rfl, hrow, exec_txCommand_sws (kind := .push) hm nofun hadm hrow⟩
  case close =>
    intro s hr hm hw hst hfin hq f t
    have hadm : txAdmit .close [] s = .ok := sws_admits hr hw hst hfin hq nofun
    have hrow : exec .swsClose s = .next t := by
      refine (guarded_of _ _ (by simp [condSwsClose, runsAs_iff, hr, hm, hadm])).trans ?_
      rw [sendSegment_eq, hq]
      rfl
    exact ⟨rfl, hrow, exec_txCommand_sws (kind := .close) hm (fun _ => rfl) hadm hrow⟩

/-! ## Sender: the awaited acknowledgment (44_stop_and_wait R203) -/

/-- Settles O23: the one entry leaves the queue, and the control state follows `fin`. -/
theorem swsAckAccepted : Obligations.SwsAckAccepted := by
  unfold Obligations.SwsAckAccepted
  intro s buf e hr hm hst hq hdec t
  have hack : awaitedAck buf s = true := by
    simp [awaitedAck, show dec s buf = _ from hdec, Decoded.hasFlag, Decoded.hasSeq, seqOfBit]
  show RunsOnArrival s 0x29 buf (.swsAckOk buf) t
  refine sws_runsOnArrival hr hm hst hdec (k := 1) rfl (by decide) ⟨rfl, rfl⟩ ?_
  refine (guarded_of _ _ (by simp [condSwsAckOk, runsAs_iff, inState_iff, hr, hm, hst, hack])).trans ?_
  rw [cancelOldest, hq]
  rfl

/-! ## Sender: the stored frame again (44_stop_and_wait R204, R205) -/

section
variable {s : State} {buf : List Byte} {e : Entry} {c : Cause}

/-- A resend of the one outstanding segment in one update: what is raised, the emission, and the timer armed again. -/
theorem resendOldest_eq (hq : s.blk.rtx = [e]) (hooo : c ≠ .outOfOrder) (hdup : c ≠ .duplicate) :
    resendOldest c s = .next { s with
      blk := { s.blk with
        lastCause := c
        corruptSeen := s.blk.corruptSeen || c.isCorrupt
        rtx := [{ e with deadline := s.blk.now + s.blk.ses.t }]
        retxSeen := true }
      env := { s.env with out := s.env.out ++ [.emit e.frame] } } := by
  rw [resendOldest, hq]
  simp [resendHead_eq, raise, setRetxSeen, hooo, hdup]

/-- A sender raises neither of the receivers' causes (44_stop_and_wait R204, 45_go_back_n R234, R235). -/
theorem senderCause_ne (d : Decoded) : d.senderCause ≠ .outOfOrder ∧ d.senderCause ≠ .duplicate := by
  cases d with
  | corrupt sub => exact ⟨nofun, nofun⟩
  | segment seq flag p =>
    rw [Decoded.senderCause]
    split_ifs <;> exact ⟨nofun, nofun⟩

/-- Anything but the awaited acknowledgment makes a waiting sender raise its cause and resend. -/
theorem swsAckBad_runsOnArrival {d : Decoded} {k : BitVec 3} {w : Byte} (hr : s.blk.ses.role = .sender)
    (hm : s.blk.ses.mode = .sw) (hst : s.blk.st = .awaitingAck) (hq : s.blk.rtx = [e]) (hdec : dec s buf = d)
    (hack : (d.hasFlag flagAck && d.hasSeq (seqOfBit s.blk.b)) = false) (hk : classOf d = k)
    (hw : dwByte 0 0 5 k = w) (hc : d.senderCause = c) :
    RunsOnArrival s w buf (.swsAckBad k buf) { s with
      blk := { s.blk with
        lastCause := c
        corruptSeen := s.blk.corruptSeen || c.isCorrupt
        rtx := [{ e with deadline := s.blk.now + s.blk.ses.t }]
        retxSeen := true }
      env := { s.env with out := s.env.out ++ [.emit e.frame] } } := by
  subst hdec hk hw hc
  obtain ⟨hooo, hdup⟩ := senderCause_ne (dec s buf)
  refine sws_runsOnArrival hr hm hst rfl rfl rfl ⟨classOf_legal s buf, rfl⟩ ?_
  refine (execSwsAckBad_of_cond ?_).trans (resendOldest_eq hq hooo hdup)
  simp [condSwsAckBad, awaitedAck, runsAs_iff, inState_iff, hr, hm, hst, hack]

end

/-- Settles O24: none of the three is the awaited acknowledgment, and each has its class and its cause. -/
theorem swsAckBadResends : Obligations.SwsAckBadResends := by
  unfold Obligations.SwsAckBadResends
  intro s buf e hr hm hst hq resent
  refine ⟨fun sub hdec => ?corrupt, fun seq p hdec hne => ?stale, fun seq flag p c hdec hflag => ?unexpected⟩
  case corrupt =>
    show RunsOnArrival s 0x2F buf (.swsAckBad 7 buf) (resent (.corruptFrame sub) true)
    exact swsAckBad_runsOnArrival hr hm hst hq hdec (k := 7) rfl rfl (by decide) rfl
  case stale =>
    have hseq : (Decoded.segment seq flagAck p).hasSeq (seqOfBit s.blk.b) = false := decide_eq_false hne
    show RunsOnArrival s 0x29 buf (.swsAckBad 1 buf) (resent .staleAck false)
    exact swsAckBad_runsOnArrival hr hm hst hq hdec (k := 1) (by rw [hseq, Bool.and_false]) rfl (by decide) rfl
  case unexpected =>
    show RunsOnArrival s (5#5 ++ c) buf (.swsAckBad c buf) (resent .unexpected false)
    rcases hflag with ⟨rfl, rfl⟩ | ⟨rfl, rfl⟩
    · exact swsAckBad_runsOnArrival hr hm hst hq hdec (k := 0) rfl rfl (by decide) rfl
    · exact swsAckBad_runsOnArrival hr hm hst hq hdec (k := 2) rfl rfl (by decide) rfl

/-- Settles O25: the one entry is the oldest, so its expiry enables TIMEOUT, and the row resends it. -/
theorem swsTimeoutResends : Obligations.SwsTimeoutResends := by
  unfold Obligations.SwsTimeoutResends
  intro s e hr hm hst hq hexp
  have hexpired : tmExpired s = true := (tmExpired_cons hq).trans hexp
  have hrow : exec .swsTimeout s = resendOldest .timeout s :=
    execSwsTimeout_of_cond (by simp [condSwsTimeout, runsAs_iff, inState_iff, hr, hm, hst, hexpired])
  refine ⟨rfl, (timeoutEnabled_iff s).mpr ⟨hr, .inr hst, hexpired⟩, ?_⟩
  have hcorrupt : (s.blk.corruptSeen || Cause.isCorrupt .timeout) = s.blk.corruptSeen := Bool.or_false _
  rw [hrow, resendOldest_eq hq (c := .timeout) nofun nofun, hcorrupt]

/-! ## Receiver: the conditions for a segment -/

section
variable {s : State} {buf p : List Byte} {seq : Half} {flag : Byte}

/-- The condition of a listening receiver's row for the segment it expects. -/
theorem swr_expectedNumber (hr : s.blk.ses.role = .receiver) (hm : s.blk.ses.mode = .sw) (hst : s.blk.st = .listen)
    (hdec : dec s buf = .segment s.blk.expected flag p) : (runsAs .receiver .sw s && inState .listen s
      && (dec s buf).hasFlag flag && (dec s buf).hasSeq s.blk.expected) = true := by
  refine accepts_iff.mpr ⟨hr, hm, hst, ?_, ?_⟩ <;> rw [hdec] <;> exact decide_eq_true rfl

/-- The condition of a listening receiver's row for a segment of another number. -/
theorem swr_otherNumber (hr : s.blk.ses.role = .receiver) (hm : s.blk.ses.mode = .sw) (hst : s.blk.st = .listen)
    (hdec : dec s buf = .segment seq flag p) (hne : seq ≠ s.blk.expected) : (runsAs .receiver .sw s
      && inState .listen s && (dec s buf).hasFlag flag && !(dec s buf).hasSeq s.blk.expected) = true := by
  simp [runsAs_iff, inState_iff, hr, hm, hst, hdec, Decoded.hasFlag, Decoded.hasSeq, hne]

end

/-! ## Receiver: the expected segment (44_stop_and_wait R211, R213) -/

/-- Settles O26: the row of the expected DATA. -/
theorem swrDelivers : Obligations.SwrDelivers := by
  unfold Obligations.SwrDelivers
  intro s buf p hr hm hst hdec t
  have hd : dec s buf = .segment s.blk.expected flagData p := hdec
  show RunsOnArrival s 0xA8 buf (.swrDataOk buf) t
  refine swr_runsOnArrival hr hm (.inl hst) hd (k := 0) rfl (by decide) ⟨rfl, rfl⟩ ?_
  refine (guarded_of _ _ (swr_expectedNumber hr hm hst hd)).trans ?_
  rw [acceptData_eq, hd]
  rfl

/-- Settles O28: the row of the expected FIN. -/
theorem swrCloses : Obligations.SwrCloses := by
  unfold Obligations.SwrCloses
  intro s buf hr hm hst hdec t
  have hd : dec s buf = .segment s.blk.expected flagFin [] := hdec
  show RunsOnArrival s 0xAA buf (.swrFinOk buf) t
  refine swr_runsOnArrival hr hm (.inl hst) hd (k := 2) rfl (by decide) ⟨rfl, rfl⟩ ?_
  refine (guarded_of _ _ (swr_expectedNumber hr hm hst hd)).trans ?_
  rw [acceptFin_eq, hd]
  rfl

/-! ## Receiver: any other segment (44_stop_and_wait R212, R214, R215) -/

/-- The last acknowledgment again for a duplicate, in one update; Duplicate sets `ooo_seen` (60_exceptions R262). -/
theorem reAck_duplicate (a : Half) (s : State) : reAck .duplicate a s = { s with
    blk := { s.blk with lastCause := .duplicate, oooSeen := true }
    env := { s.env with out := s.env.out ++ [.emit (mkAck s.blk.ses a)] } } := by
  simp [reAck, raise, emit, Cause.isCorrupt]

/-- With modulus 2 a verified number other than the expected one is the receiver's other number (44_stop_and_wait
R210). -/
theorem otherSeq_of_ne {s : State} {buf p : List Byte} {seq : Half} {flag : Byte}
    (hdec : dec s buf = .segment seq flag p) (hne : seq ≠ s.blk.expected) (hm : s.blk.ses.m = 2)
    (hexp : s.blk.expected.toNat < 2) : otherSeq s.blk.expected = seq := by
  obtain ⟨hpre, -⟩ := decodeSeg_eq_segment_iff.mp hdec
  have hseq : seq.toNat < s.blk.ses.m.toNat := (encodePre_iff.mp hpre).1
  have hlt : seq.toNat < 2 := by rw [hm] at hseq; exact hseq
  have hdiff : seq.toNat ≠ s.blk.expected.toNat := fun h => hne (BitVec.eq_of_toNat_eq h)
  apply BitVec.eq_of_toNat_eq
  rw [otherSeq_toNat hexp]
  omega

/-- Settles O27: three rows, told apart by control state and flag, with one effect. -/
theorem swrReacknowledges : Obligations.SwrReacknowledges := by
  unfold Obligations.SwrReacknowledges
  intro s buf p seq flag hr hm hdec t
  have hd : dec s buf = .segment seq flag p := hdec
  have effect {c : Bool} (hc : c = true) : guarded c (reAck .duplicate (otherSeq s.blk.expected) s) = .next t :=
    (guarded_of _ _ hc).trans (congrArg _ (reAck_duplicate _ s))
  refine ⟨fun hst hf hne => ?data, otherSeq_of_ne hd, fun hst hf hne => ?fin, fun c hst hf => ?closed⟩
  case data =>
    subst hf
    show RunsOnArrival s 0xA8 buf (.swrDataDup buf) t
    exact swr_runsOnArrival hr hm (.inl hst) hd (k := 0) rfl (by decide) ⟨rfl, rfl⟩
      (effect (swr_otherNumber hr hm hst hd hne))
  case fin =>
    subst hf
    show RunsOnArrival s 0xAA buf (.swrFinDup buf) t
    exact swr_runsOnArrival hr hm (.inl hst) hd (k := 2) rfl (by decide) ⟨rfl, rfl⟩
      (effect (swr_otherNumber hr hm hst hd hne))
  case closed =>
    have hreack : flag = reackFlag c := hf
    have hcond : condSwrClosedReack c buf s = true := by
      simp [condSwrClosedReack, runsAs_iff, inState_iff, hr, hm, hst, hd, hreack, Decoded.hasFlag]
    subst hreack
    show RunsOnArrival s (if c = 0 then 0xA8 else 0xAA) buf (.swrClosedReack c buf) t
    rcases Laws.reackCls_cases c with ⟨rfl, -⟩ | ⟨rfl, -⟩
    · exact swr_runsOnArrival hr hm (.inr hst) hd (k := 0) rfl (by decide) ⟨rfl, rfl⟩ (effect hcond)
    · exact swr_runsOnArrival hr hm (.inr hst) hd (k := 2) rfl (by decide) ⟨rfl, rfl⟩ (effect hcond)

/-! ## Receiver: what it does not consume (44_stop_and_wait R216, R217) -/

/-- Unexpected sets no sticky flag (60_exceptions R262). -/
theorem raise_unexpected (s : State) :
    raise .unexpected s = { s with blk := { s.blk with lastCause := .unexpected } } := by
  simp [raise, Cause.isCorrupt]

/-- Settles O29: both rows only raise. -/
theorem swrDiscards : Obligations.SwrDiscards := by
  unfold Obligations.SwrDiscards
  intro s buf hr hm hst
  have hans : answering s = true := by
    rcases hst with h | h <;> simp [answering, inState_iff, h]
  refine ⟨fun sub hdec => ?corrupt, fun seq p hdec => ?ack⟩
  case corrupt =>
    have hd : dec s buf = .corrupt sub := hdec
    show RunsOnArrival s 0xAF buf (.swrCorrupt buf) _
    refine swr_runsOnArrival hr hm hst hd (k := 7) rfl (by decide) ⟨rfl, rfl⟩ ?_
    refine (guarded_of _ _ ?_).trans ?_
    · simp [condSwrCorrupt, runsAs_iff, hr, hm, hans, hd, Decoded.isCorrupt]
    · rw [hd, ← raise_corruptFrame]; rfl
  case ack =>
    have hd : dec s buf = .segment seq flagAck p := hdec
    show RunsOnArrival s 0xA9 buf (.swrAckIgn buf) _
    refine swr_runsOnArrival hr hm hst hd (k := 1) rfl (by decide) ⟨rfl, rfl⟩ ?_
    refine (guarded_of _ _ ?_).trans (congrArg _ (raise_unexpected s))
    simp [condSwrAckIgn, runsAs_iff, hr, hm, hans, hd, Decoded.hasFlag]

end Sys2Proof.Proofs
end

section
/-! # Go-Back-N (O30 to O37)

As for stop-and-wait, each rule is settled by its row alone (`FallsIn.exec_of_next`): its condition, and its effect in
one update. The statements write the sequence arithmetic out where the model names it, so the acknowledgment distance
(`ackDist_eq`) and the last acknowledged number (`expectedPred_eq`) are read off first. -/

namespace Sys2Proof.Proofs

open Sys2Proof Sys2Proof.Machine Sys2Proof.Safety

/-! ## The row and the arrival (43_session_control R182) -/

section
variable {s t : State} {w : Byte} {buf : List Byte} {i : Instr} {d : Decoded} {k : BitVec 3}

/-- At a ready Go-Back-N sender the row of the buffer's class decides what its arrival does. -/
theorem gbs_runsOnArrival (hr : s.blk.ses.role = .sender) (hm : s.blk.ses.mode = .gbn) (hst : s.blk.st = .ready)
    (hdec : dec s buf = d) (hk : classOf d = k) (hw : dwByte 0 1 5 k = w)
    (hi : StandsFor .dw (dwByte 0 1 5 k :: buf) i) (hrow : exec i s = .next t) : RunsOnArrival s w buf i t := by
  subst hdec hk hw
  refine FallsIn.runsOnArrival ?_ hi hrow
  rw [rxFrame_active (by rw [hst]; rfl), hr, hm]
  exact fallsIn_rxGbs hr hm hst

/-- At a Go-Back-N receiver that answers the row of the buffer's class decides what its arrival does. -/
theorem gbr_runsOnArrival (hr : s.blk.ses.role = .receiver) (hm : s.blk.ses.mode = .gbn)
    (hst : s.blk.st = .listen ∨ s.blk.st = .closed) (hdec : dec s buf = d) (hk : classOf d = k)
    (hw : dwByte 1 1 5 k = w) (hi : StandsFor .dw (dwByte 1 1 5 k :: buf) i) (hrow : exec i s = .next t) :
    RunsOnArrival s w buf i t := by
  subst hdec hk hw
  have hfalls := fallsIn_receiver (buf := buf) hr hst
  rw [modeNow_gbn hm] at hfalls
  exact hfalls.runsOnArrival hi hrow

end

/-! ## Sender: a new acknowledgment (45_go_back_n R233) -/

/-- The distance of an acknowledgment from `base`, from the arithmetic of 00_scope R12. -/
theorem ackDist_eq {s : State} {a : Half} {d : Nat}
    (hd : (d : Int) = ((a.toNat : Int) - (s.blk.base.toNat : Int)) % (s.blk.ses.m.toNat : Int)) : ackDist a s = d := by
  rw [ackDist, seqDist, ← hd, Int.toNat_natCast]

/-- Settles O31: the acknowledgment is new, and what is left decides whether the session is done. -/
theorem gbsAckRetires : Obligations.GbsAckRetires := by
  unfold Obligations.GbsAckRetires
  intro s buf p a d hr hm hst hdec hd hnew t
  have hseg : dec s buf = .segment a flagAck p := hdec
  obtain rfl : ackDist a s = d := ackDist_eq hd
  have hcond : condGbsAck buf s = true := by
    simp [condGbsAck, ackIsNew, runsAs_iff, inState_iff, hr, hm, hst, hseg, Decoded.hasFlag, Decoded.seqNum, hnew]
  have heffect : finishIfDrained (retire (dec s buf).seqNum s) = t := by
    rw [hseg, Decoded.seqNum, finishIfDrained_retire hnew, hst]
    rfl
  show RunsOnArrival s 0x69 buf (.gbsAck buf) t
  exact gbs_runsOnArrival hr hm hst hseg (k := 1) rfl (by decide) ⟨rfl, rfl⟩
    ((guarded_of _ _ hcond).trans (congrArg _ heffect))

/-! ## Sender: what it does not consume (45_go_back_n R234, R235) -/

/-- StaleAck sets no sticky flag (60_exceptions R262). -/
theorem raise_staleAck (s : State) : raise .staleAck s = { s with blk := { s.blk with lastCause := .staleAck } } := by
  simp [raise, Cause.isCorrupt]

/-- Anything but an acknowledgment makes a ready Go-Back-N sender raise its cause. -/
theorem gbsDiscard_runsOnArrival {s : State} {buf : List Byte} {d : Decoded} {k : BitVec 3} {w : Byte}
    (hr : s.blk.ses.role = .sender) (hm : s.blk.ses.mode = .gbn) (hst : s.blk.st = .ready) (hdec : dec s buf = d)
    (hack : d.hasFlag flagAck = false) (hk : classOf d = k) (hw : dwByte 0 1 5 k = w) :
    RunsOnArrival s w buf (.gbsDiscard k buf) (raise d.senderCause s) := by
  subst hdec hk hw
  have hne : classOf (dec s buf) ≠ 1 := fun h => by rw [(classOf_eq_one_iff s buf).mp h] at hack; cases hack
  have hwf : (Instr.gbsDiscard (classOf (dec s buf)) buf).wellFormed = true :=
    Bool.and_eq_true_iff.mpr ⟨classOf_legal s buf, decide_eq_true hne⟩
  refine gbs_runsOnArrival hr hm hst rfl rfl rfl ⟨hwf, rfl⟩ (guarded_of _ _ ?_)
  simp [condGbsDiscard, runsAs_iff, inState_iff, hr, hm, hst, hack]

/-- Settles O32: each of the three only raises. -/
theorem gbsIgnores : Obligations.GbsIgnores := by
  unfold Obligations.GbsIgnores
  intro s buf hr hm hst
  refine ⟨fun a p hdec hold => ?stale, fun sub hdec => ?corrupt, fun seq flag p c hdec hflag => ?unexpected⟩
  case stale =>
    have hseg : dec s buf = .segment a flagAck p := hdec
    have hdist : s.blk.rtx.length ≤ ackDist a s := by rw [ackDist, seqDist]; omega
    have hcond : condGbsAckStale buf s = true := by
      simp [condGbsAckStale, ackIsNew, runsAs_iff, inState_iff, hr, hm, hst, hseg, Decoded.hasFlag, Decoded.seqNum,
        hdist]
    show RunsOnArrival s 0x69 buf (.gbsAckStale buf) _
    exact gbs_runsOnArrival hr hm hst hseg (k := 1) rfl (by decide) ⟨rfl, rfl⟩
      ((guarded_of _ _ hcond).trans (congrArg _ (raise_staleAck s)))
  case corrupt =>
    show RunsOnArrival s 0x6F buf (.gbsDiscard 7 buf) _
    rw [← raise_corruptFrame]
    exact gbsDiscard_runsOnArrival hr hm hst hdec rfl rfl (by decide)
  case unexpected =>
    show RunsOnArrival s (13#5 ++ c) buf (.gbsDiscard c buf) _
    rw [← raise_unexpected]
    rcases hflag with ⟨rfl, rfl⟩ | ⟨rfl, rfl⟩
    · exact gbsDiscard_runsOnArrival hr hm hst hdec rfl rfl (by decide)
    · exact gbsDiscard_runsOnArrival hr hm hst hdec rfl rfl (by decide)

/-! ## Receiver: the conditions for a segment, in either mode -/

section
variable {s : State} {m : Mode} {buf p : List Byte} {seq : Half} {flag : Byte}

/-- The condition of a listening receiver's row for the segment it expects. -/
theorem accepts_expectedNumber (hr : s.blk.ses.role = .receiver) (hm : s.blk.ses.mode = m) (hst : s.blk.st = .listen)
    (hdec : dec s buf = .segment s.blk.expected flag p) : (runsAs .receiver m s && inState .listen s
      && (dec s buf).hasFlag flag && (dec s buf).hasSeq s.blk.expected) = true := by
  refine accepts_iff.mpr ⟨hr, hm, hst, ?_, ?_⟩ <;> rw [hdec] <;> exact decide_eq_true rfl

/-- The condition of a listening receiver's row for a segment of another number. -/
theorem rejects_otherNumber (hr : s.blk.ses.role = .receiver) (hm : s.blk.ses.mode = m) (hst : s.blk.st = .listen)
    (hdec : dec s buf = .segment seq flag p) (hne : seq ≠ s.blk.expected) : (runsAs .receiver m s
      && inState .listen s && (dec s buf).hasFlag flag && !(dec s buf).hasSeq s.blk.expected) = true := by
  simp [runsAs_iff, inState_iff, hr, hm, hst, hdec, Decoded.hasFlag, Decoded.hasSeq, hne]

end

/-! ## Receiver: a segment out of turn (45_go_back_n R242, R244, R245) -/

/-- The last cumulative acknowledgment, from the arithmetic of 00_scope R12. -/
theorem expectedPred_eq {s : State} {a : Half}
    (ha : (a.toNat : Int) = ((s.blk.expected.toNat : Int) - 1) % (s.blk.ses.m.toNat : Int)) : expectedPred s = a := by
  rw [expectedPred, seqPred, ← ha, Int.toNat_natCast, BitVec.ofNat_toNat, BitVec.setWidth_eq]

/-- The last acknowledgment again for a segment out of turn, in one update; OutOfOrder sets `ooo_seen`
(60_exceptions R262). -/
theorem reAck_outOfOrder (a : Half) (s : State) : reAck .outOfOrder a s = { s with
    blk := { s.blk with lastCause := .outOfOrder, oooSeen := true }
    env := { s.env with out := s.env.out ++ [.emit (mkAck s.blk.ses a)] } } := by
  simp [reAck, raise, emit, Cause.isCorrupt]

/-- Settles O35: three rows, told apart by control state and flag, with one effect. -/
theorem gbrReacknowledges : Obligations.GbrReacknowledges := by
  unfold Obligations.GbrReacknowledges
  intro s buf p seq a flag hr hm hdec ha t
  have hseg : dec s buf = .segment seq flag p := hdec
  obtain rfl : expectedPred s = a := expectedPred_eq ha
  have effect {c : Bool} (hc : c = true) : guarded c (reAck .outOfOrder (expectedPred s) s) = .next t :=
    (guarded_of _ _ hc).trans (congrArg _ (reAck_outOfOrder _ s))
  refine ⟨fun hst hflag hne => ?data, fun hst hflag hne => ?fin, fun c hst hflag => ?closed⟩
  case data =>
    subst hflag
    show RunsOnArrival s 0xE8 buf (.gbrDataOoo buf) t
    exact gbr_runsOnArrival hr hm (.inl hst) hseg (k := 0) rfl (by decide) ⟨rfl, rfl⟩
      (effect (rejects_otherNumber hr hm hst hseg hne))
  case fin =>
    subst hflag
    show RunsOnArrival s 0xEA buf (.gbrFinOoo buf) t
    exact gbr_runsOnArrival hr hm (.inl hst) hseg (k := 2) rfl (by decide) ⟨rfl, rfl⟩
      (effect (rejects_otherNumber hr hm hst hseg hne))
  case closed =>
    obtain rfl : flag = reackFlag c := hflag
    have hcond : condGbrClosedReack c buf s = true := by
      simp [condGbrClosedReack, runsAs_iff, inState_iff, hr, hm, hst, hseg, Decoded.hasFlag]
    show RunsOnArrival s (if c = 0 then 0xE8 else 0xEA) buf (.gbrClosedReack c buf) t
    rcases Laws.reackCls_cases c with ⟨rfl, -⟩ | ⟨rfl, -⟩
    · exact gbr_runsOnArrival hr hm (.inr hst) hseg (k := 0) rfl (by decide) ⟨rfl, rfl⟩ (effect hcond)
    · exact gbr_runsOnArrival hr hm (.inr hst) hseg (k := 2) rfl (by decide) ⟨rfl, rfl⟩ (effect hcond)

/-! ## Sender: a segment leaves (45_go_back_n R231, R232) -/

/-- An admitted command and its Go-Back-N row have one effect: `txAdmit` is the row's condition. -/
theorem gbs_runsAdmitted {s t : State} {kind : TxKind} {p : List Byte} (hm : s.blk.ses.mode = .gbn)
    (hp : kind = .close → p = []) (hadm : txAdmit kind p s = .ok)
    (heffect : exec (txRow kind .gbn p) s = guarded (enabled (txRow kind .gbn p) s) t) :
    exec (txRow kind .gbn p) s = .next t ∧ exec (txCommand kind p) s = .next t := by
  have hcmd := exec_txCommand_admitted hp hadm
  have hon := txRow_enabled hp hadm
  rw [hm] at hcmd hon
  have hrow : exec (txRow kind .gbn p) s = .next t := heffect.trans (guarded_of _ _ hon)
  exact ⟨hrow, hcmd.trans hrow⟩

/-- Settles O30: the command is admitted, and its row is one sent segment past which `next` advances. -/
theorem gbsSends : Obligations.GbsSends := by
  unfold Obligations.GbsSends
  refine ⟨?push, ?close⟩
  case push =>
    intro s p hr hm hst hfin hroom hlen f t
    have hadm : txAdmit .push p s = .ok := (txAdmit_ok_iff _ _ _).mpr ⟨hr, .inl hst, hfin, fun _ => hlen, hroom⟩
    exact ⟨rfl, gbs_runsAdmitted (kind := .push) hm nofun hadm rfl⟩
  case close =>
    intro s hr hm hst hfin hroom f t
    have hadm : txAdmit .close [] s = .ok := (txAdmit_ok_iff _ _ _).mpr ⟨hr, .inl hst, hfin, nofun, hroom⟩
    exact ⟨rfl, gbs_runsAdmitted (kind := .close) hm (fun _ => rfl) hadm rfl⟩

/-! ## Sender: the whole window again (45_go_back_n R236) -/

/-- The resend of the window on TIMEOUT in one update: what is raised, the emissions in the queue's order, and every
timer armed at the one value of `now`. -/
theorem resendWindow_timeout (s : State) : resendWindow (raise .timeout s) = { s with
    blk := { s.blk with
      lastCause := .timeout
      retxSeen := true
      rtx := s.blk.rtx.map (fun x => { x with deadline := s.blk.now + s.blk.ses.t }) }
    env := { s.env with out := s.env.out ++ s.blk.rtx.map (fun x => .emit x.frame) } } := by
  rw [resendWindow_eq, List.map_map]
  simp [raise, Cause.isCorrupt, Function.comp_def, armEntry, armDeadline]

/-- Settles O33: the oldest entry's expiry enables TIMEOUT, and the row resends the window. -/
theorem gbsTimeoutResends : Obligations.GbsTimeoutResends := by
  unfold Obligations.GbsTimeoutResends
  intro s e rest hr hm hst hq hexp
  have hexpired : tmExpired s = true := (tmExpired_cons hq).trans hexp
  have hcond : condGbsTimeout s = true := by simp [condGbsTimeout, runsAs_iff, inState_iff, hr, hm, hst, hexpired]
  exact ⟨rfl, (timeoutEnabled_iff s).mpr ⟨hr, .inl hst, hexpired⟩,
    (guarded_of _ _ hcond).trans (congrArg _ (resendWindow_timeout s))⟩

/-! ## Receiver: the expected segment (45_go_back_n R241, R243) -/

/-- Settles O34: the row of the expected DATA. -/
theorem gbrDelivers : Obligations.GbrDelivers := by
  unfold Obligations.GbrDelivers
  intro s buf p hr hm hst hdec t
  have hseg : dec s buf = .segment s.blk.expected flagData p := hdec
  show RunsOnArrival s 0xE8 buf (.gbrDataOk buf) t
  refine gbr_runsOnArrival hr hm (.inl hst) hseg (k := 0) rfl (by decide) ⟨rfl, rfl⟩ ?_
  refine (guarded_of _ _ (accepts_expectedNumber hr hm hst hseg)).trans ?_
  rw [acceptData_eq, hseg]
  rfl

/-- Settles O36: the row of the expected FIN. -/
theorem gbrCloses : Obligations.GbrCloses := by
  unfold Obligations.GbrCloses
  intro s buf hr hm hst hdec t
  have hseg : dec s buf = .segment s.blk.expected flagFin [] := hdec
  show RunsOnArrival s 0xEA buf (.gbrFinOk buf) t
  refine gbr_runsOnArrival hr hm (.inl hst) hseg (k := 2) rfl (by decide) ⟨rfl, rfl⟩ ?_
  refine (guarded_of _ _ (accepts_expectedNumber hr hm hst hseg)).trans ?_
  rw [acceptFin_eq, hseg]
  rfl

/-! ## Receiver: what it does not consume (45_go_back_n R246, R247) -/

/-- Settles O37: both rows only raise. -/
theorem gbrDiscards : Obligations.GbrDiscards := by
  unfold Obligations.GbrDiscards
  intro s buf hr hm hst
  have hans : answering s = true := by
    rcases hst with h | h <;> simp [answering, inState_iff, h]
  refine ⟨fun sub hdec => ?corrupt, fun seq p hdec => ?ack⟩
  case corrupt =>
    have hrejected : dec s buf = .corrupt sub := hdec
    have hcond : condGbrCorrupt buf s = true := by
      simp [condGbrCorrupt, runsAs_iff, hr, hm, hans, hrejected, Decoded.isCorrupt]
    have heffect : raise (dec s buf).receiverCause s = raise (.corruptFrame sub) s := by rw [hrejected]; rfl
    show RunsOnArrival s 0xEF buf (.gbrCorrupt buf) _
    rw [← raise_corruptFrame]
    exact gbr_runsOnArrival hr hm hst hrejected (k := 7) rfl (by decide) ⟨rfl, rfl⟩
      ((guarded_of _ _ hcond).trans (congrArg _ heffect))
  case ack =>
    have hseg : dec s buf = .segment seq flagAck p := hdec
    have hcond : condGbrAckIgn buf s = true := by
      simp [condGbrAckIgn, runsAs_iff, hr, hm, hans, hseg, Decoded.hasFlag]
    show RunsOnArrival s 0xE9 buf (.gbrAckIgn buf) _
    exact gbr_runsOnArrival hr hm hst hseg (k := 1) rfl (by decide) ⟨rfl, rfl⟩
      ((guarded_of _ _ hcond).trans (congrArg _ (raise_unexpected s)))

end Sys2Proof.Proofs
end

section
/-! # The diagnostic state (O45)

Each operation's condition, the row a port operation runs, and all that it writes outside the diagnostic fields are read
from the rest of the state, so an operation answers a state as it answers it without them (`exec_eraseDiag`). -/

namespace Sys2Proof.Proofs

open Sys2Proof Sys2Proof.Machine Sys2Proof.Safety

@[simp] theorem eraseDiag_ses (s : State) : (eraseDiag s).blk.ses = s.blk.ses := rfl
@[simp] theorem eraseDiag_st (s : State) : (eraseDiag s).blk.st = s.blk.st := rfl
@[simp] theorem eraseDiag_rtx (s : State) : (eraseDiag s).blk.rtx = s.blk.rtx := rfl

/-! ## Rules (43_session_control R182) -/

/-- Choices on one condition answer alike, up to the diagnostic fields, where both branches do. -/
theorem ite_alike {p : Prop} [Decidable p] {o o' u u' : Out} (h : viewOut eraseDiag o' = viewOut eraseDiag o)
    (k : viewOut eraseDiag u' = viewOut eraseDiag u) :
    viewOut eraseDiag (if p then o' else u') = viewOut eraseDiag (if p then o else u) := by
  split <;> assumption

/-- Rules under one condition answer alike where their effects are alike. -/
theorem guarded_alike {b : Bool} {t t' : State} (ht : eraseDiag t' = eraseDiag t) :
    viewOut eraseDiag (guarded b t') = viewOut eraseDiag (guarded b t) :=
  ite_alike (congrArg Host.Outcome.next ht) rfl

theorem execSwsAckBad_eraseDiag (c : BitVec 3) (buf : List Byte) (s : State) :
    viewOut eraseDiag (execSwsAckBad c buf (eraseDiag s)) = viewOut eraseDiag (execSwsAckBad c buf s) := by
  refine ite_alike ?_ rfl
  rw [eraseDiag_rtx]
  cases s.blk.rtx <;> rfl

theorem execSwsTimeout_eraseDiag (s : State) :
    viewOut eraseDiag (execSwsTimeout (eraseDiag s)) = viewOut eraseDiag (execSwsTimeout s) := by
  refine ite_alike ?_ rfl
  rw [eraseDiag_rtx]
  cases s.blk.rtx <;> rfl

theorem finishIfDrained_eraseDiag (s : State) :
    eraseDiag (finishIfDrained (eraseDiag s)) = eraseDiag (finishIfDrained s) := by
  unfold finishIfDrained
  rw [apply_ite eraseDiag, apply_ite eraseDiag]
  rfl

theorem execGbsAck_eraseDiag (buf : List Byte) (s : State) :
    viewOut eraseDiag (execGbsAck buf (eraseDiag s)) = viewOut eraseDiag (execGbsAck buf s) :=
  guarded_alike (finishIfDrained_eraseDiag (retire (dec s buf).seqNum s))

/-! ## Operations -/

/-- A buffer has the same row with and without the diagnostic fields. -/
theorem rxFrame_eraseDiag (buf : List Byte) (s : State) :
    viewOut eraseDiag (rxFrame buf (eraseDiag s)) = viewOut eraseDiag (rxFrame buf s) := by
  refine ite_alike (guarded_alike rfl) ?_
  rw [eraseDiag_ses]
  cases s.blk.ses.role <;> cases s.blk.ses.mode
  case sender.sw =>
    simp only [rxSws, eraseDiag_st]
    cases s.blk.st with
    | ready => exact guarded_alike rfl
    | awaitingAck => exact ite_alike (guarded_alike rfl) (execSwsAckBad_eraseDiag _ buf s)
    | _ => rfl
  case sender.gbn =>
    simp only [rxGbs, eraseDiag_st]
    cases s.blk.st with
    | ready => exact ite_alike (ite_alike (execGbsAck_eraseDiag buf s) (guarded_alike rfl)) (guarded_alike rfl)
    | _ => rfl
  case receiver.sw | receiver.gbn =>
    simp only [rxSwr, rxGbr, eraseDiag_st]
    cases s.blk.st with
    | listen =>
      exact ite_alike (guarded_alike rfl) (ite_alike (guarded_alike rfl)
        (ite_alike (ite_alike (guarded_alike rfl) (guarded_alike rfl))
          (ite_alike (guarded_alike rfl) (guarded_alike rfl))))
    | closed =>
      exact ite_alike (guarded_alike rfl) (ite_alike (guarded_alike rfl)
        (ite_alike (guarded_alike rfl) (guarded_alike rfl)))
    | _ => rfl

/-- A `TX_PUSH` or a `TX_CLOSE` has the same row with and without the diagnostic fields. -/
theorem exec_txCommand_eraseDiag (kind : TxKind) (p : List Byte) (s : State) :
    viewOut eraseDiag (exec (txCommand kind p) (eraseDiag s)) = viewOut eraseDiag (exec (txCommand kind p) s) := by
  cases kind with
  | push | close =>
    refine ite_alike (guarded_alike rfl) ?_
    rw [eraseDiag_ses]
    cases s.blk.ses.mode <;> exact guarded_alike rfl

/-- The diagnostic fields take no part in an operation but for what it leaves in them. -/
theorem exec_eraseDiag (i : Instr) (s : State) :
    viewOut eraseDiag (exec i (eraseDiag s)) = viewOut eraseDiag (exec i s) := by
  cases i with
  | frameData | frameAck | frameFin | frameIllegal => exact rxFrame_eraseDiag _ s
  | csum16 | csum16v | crc16 | crc16v | encode | decode | tmTick | tmCancelAll | tmExpired | evTick | cmdReserved => rfl
  | tmArm x =>
    cases x with
    | fresh => rfl
    | queued j => exact ite_alike rfl rfl
  | tmCancel k => exact ite_alike rfl rfl
  | evOpen | evOpenBadcfg | evOpenBadstate | evAbort | evAbortBadstate | txRefuse | rxInactive | swsPush | swsClose
  | swsAckOk | swsRxReady | swrDataOk | swrDataDup | swrFinOk | swrFinDup | swrClosedReack | swrCorrupt | swrAckIgn
  | gbsPush | gbsClose | gbsAckStale | gbsDiscard | gbsTimeout | gbrDataOk | gbrDataOoo | gbrFinOk | gbrFinOoo
  | gbrClosedReack | gbrCorrupt | gbrAckIgn => exact guarded_alike rfl
  | gbsAck buf => exact execGbsAck_eraseDiag buf s
  | swsAckBad c buf => exact execSwsAckBad_eraseDiag c buf s
  | swsTimeout => exact execSwsTimeout_eraseDiag s
  | cmdOpen => exact ite_alike (guarded_alike rfl) (ite_alike (guarded_alike rfl) (guarded_alike rfl))
  | cmdTxPush p => exact exec_txCommand_eraseDiag .push p s
  | cmdTxClose => exact exec_txCommand_eraseDiag .close [] s
  | cmdAbort cause => exact ite_alike (guarded_alike rfl) (guarded_alike rfl)

/-- Settles O45: `raise` for each cause, and two states that agree but for the diagnostic fields are one state without
them. -/
theorem diagnosticsInfluenceNothing : Obligations.DiagnosticsInfluenceNothing := by
  unfold Obligations.DiagnosticsInfluenceNothing
  refine ⟨fun c s => ?writes, fun s₁ s₂ i he => ?alike⟩
  case writes =>
    simp only [raise, Bool.decide_or, Bool.or_assoc]
    cases c <;> rfl
  case alike => rw [← exec_eraseDiag i s₁, he, exec_eraseDiag]

end Sys2Proof.Proofs
end

section
/-! # Reset (O44) -/

namespace Sys2Proof.Proofs

open Sys2Proof Sys2Proof.Machine Sys2Proof.Safety

/-- The fourteen named registers, `STATUS` among them, are words of the reset values; a number above 13 reads 0 in every
state (10_state R43, R51). -/
theorem csrValue_reset (n : Nat) : csrValue n State.reset = 0 := by
  rcases Nat.lt_or_ge 13 n with above | within
  · exact csrValue_above above _
  · have named : ∀ k ≤ 13, csrValue k State.reset = 0 := by decide
    exact named n within

/-- A reset asserted is complete when it is taken up, and writes the block alone (70_reset_and_hazards R290). -/
theorem step_of_reset {s : State} {rest : List Moment} (h : s.env.agenda = .reset :: rest) :
    step s = .next (assertReset (withAgenda rest s)) :=
  step_of_still (fetch_cons h)

/-- Settles O44: the written-out block is `resetBlock`, which a reset puts in place of any other. -/
theorem resetIsTotal : Obligations.ResetIsTotal := by
  unfold Obligations.ResetIsTotal
  intro zero
  refine ⟨?block, csrValue_reset, fun s rest h => ?asserted⟩
  case block => rfl
  case asserted => exact ⟨(withAgenda rest s).env, step_of_reset h, rfl⟩

end Sys2Proof.Proofs
end
